-- ==== Sys2Proof/Word.lean ====
section
/-! DEFINITION. The machine's two word types (spec/00_scope.md R10, R13: registers and memory cells of 8 bits,
SP, PC and addresses of 16 bits). -/

namespace Sys2Proof

/-- An 8-bit value: a general register, a memory cell, an opcode byte (R10). -/
abbrev Byte := BitVec 8

/-- A 16-bit value: SP, PC, a register pair, an address (R10). -/
abbrev Word := BitVec 16

end Sys2Proof
end

