-- ==== Sys2Proof/Syntax.lean ====
section
/-! DEFINITION. The instruction set as syntax: one constructor of `Instr` per row of spec/opcode_table.json,
named as the row is (the table's `HL+`, `HL-` and `SP+e8` are spelt `HLinc`, `HLdec`, `SPplus_e8`), with the
immediate bytes it carries; and the operand form (`Form`) each row has by the operand codes of
spec/30_encoding.md R201 to R208. -/

namespace Sys2Proof

/-- The 8-bit operand code `r8` (30_encoding.md R202), in code order 0 to 7; `hlMem` is the byte at HL. -/
inductive R8 where
  | b
  | c
  | d
  | e
  | h
  | l
  | hlMem
  | a
deriving DecidableEq, Repr

/-- The seven general registers that an instruction names by itself (10_state.md R30). -/
inductive Reg where
  | a
  | b
  | c
  | d
  | e
  | h
  | l
deriving DecidableEq, Repr

/-- The register an operand code names; none for the byte at HL (R202). -/
def R8.reg : R8 → Option Reg
  | .b => some .b
  | .c => some .c
  | .d => some .d
  | .e => some .e
  | .h => some .h
  | .l => some .l
  | .hlMem => none
  | .a => some .a

/-- The 16-bit operand code `r16` (R203), in code order 0 to 3. -/
inductive R16 where
  | bc
  | de
  | hl
  | sp
deriving DecidableEq, Repr

/-- The stack-pair code `r16stk` (R204), in code order 0 to 3. -/
inductive R16Stk where
  | bc
  | de
  | hl
  | af
deriving DecidableEq, Repr

/-- The indirect-pair code `r16mem` (R205), in code order 0 to 3. -/
inductive R16Mem where
  | bc
  | de
  | hlInc
  | hlDec
deriving DecidableEq, Repr

/-- The condition code `cc` (R206), in code order 0 to 3. -/
inductive Cond where
  | nz
  | z
  | nc
  | c
deriving DecidableEq, Repr

/-- The ALU operation code (R207), in code order 0 to 7. -/
inductive AluOp where
  | add
  | adc
  | sub
  | sbc
  | and
  | xor
  | or
  | cp
deriving DecidableEq, Repr

/-- The CB shift code (R208), in code order 0 to 7. The first four also name the rotations of A (R380 to R383). -/
inductive ShiftOp where
  | rlc
  | rrc
  | rl
  | rr
  | sla
  | sra
  | swap
  | srl
deriving DecidableEq, Repr

/-- The operand form of an instruction: the instruction classes of files 40 to 46 with the operands that the
fields of R201 select. -/
inductive Form where
  | nop
  | ldR8 (dst src : R8)
  | ldR8Imm (dst : R8) (d : Byte)
  | ldAInd (m : R16Mem)
  | ldIndA (m : R16Mem)
  | ldAMem (a : Word)
  | ldMemA (a : Word)
  | ldhLoad (a : Byte)
  | ldhStore (a : Byte)
  | ldAHighC
  | ldHighCA
  | ldR16 (r : R16) (d : Word)
  | ldMemSp (a : Word)
  | ldSpHl
  | ldHlSp (e : Byte)
  | push (r : R16Stk)
  | pop (r : R16Stk)
  | alu (op : AluOp) (src : R8)
  | aluImm (op : AluOp) (d : Byte)
  | incR8 (r : R8)
  | decR8 (r : R8)
  | cpl
  | scf
  | ccf
  | daa
  | incR16 (r : R16)
  | decR16 (r : R16)
  | addHl (r : R16)
  | addSp (e : Byte)
  | rotA (op : ShiftOp)
  | shift (op : ShiftOp) (r : R8)
  | bit (n : BitVec 3) (r : R8)
  | res (n : BitVec 3) (r : R8)
  | set (n : BitVec 3) (r : R8)
  | jp (a : Word)
  | jpCc (cc : Cond) (a : Word)
  | jpHl
  | jr (e : Byte)
  | jrCc (cc : Cond) (e : Byte)
  | call (a : Word)
  | callCc (cc : Cond) (a : Word)
  | ret
  | retCc (cc : Cond)
  | reti
  | rst (n : BitVec 3)
  | halt
  | stop (b : Byte)
  | ei
  | di
  | prefixCb (c : Byte)
  | illegal (op : Byte)
deriving DecidableEq, Repr

/-- The instructions: the rows of spec/opcode_table.json, primary map (R212) and CB map (R213), the rows
that carry bytes first.
`STOP b` carries its second byte, which R215 requires to be 0; `PREFIX_CB c` is the prefix row with the byte that
follows it (R421), another name for the words of the CB row `c`. -/
inductive Instr where
  | LD_BC_d16 (d : Word)
  | LD_B_d8 (d : Byte)
  | LD__a16__SP (a : Word)
  | LD_C_d8 (d : Byte)
  | LD_DE_d16 (d : Word)
  | LD_D_d8 (d : Byte)
  | JR_e8 (e : Byte)
  | LD_E_d8 (d : Byte)
  | JR_NZ_e8 (e : Byte)
  | LD_HL_d16 (d : Word)
  | LD_H_d8 (d : Byte)
  | JR_Z_e8 (e : Byte)
  | LD_L_d8 (d : Byte)
  | JR_NC_e8 (e : Byte)
  | LD_SP_d16 (d : Word)
  | LD__HL__d8 (d : Byte)
  | JR_C_e8 (e : Byte)
  | LD_A_d8 (d : Byte)
  | JP_NZ_a16 (a : Word)
  | JP_a16 (a : Word)
  | CALL_NZ_a16 (a : Word)
  | ADD_A_d8 (d : Byte)
  | JP_Z_a16 (a : Word)
  | PREFIX_CB (c : Byte)
  | CALL_Z_a16 (a : Word)
  | CALL_a16 (a : Word)
  | ADC_A_d8 (d : Byte)
  | JP_NC_a16 (a : Word)
  | CALL_NC_a16 (a : Word)
  | SUB_d8 (d : Byte)
  | JP_C_a16 (a : Word)
  | CALL_C_a16 (a : Word)
  | SBC_A_d8 (d : Byte)
  | LDH__a8__A (a : Byte)
  | AND_d8 (d : Byte)
  | ADD_SP_e8 (e : Byte)
  | LD__a16__A (a : Word)
  | XOR_d8 (d : Byte)
  | LDH_A__a8 (a : Byte)
  | OR_d8 (d : Byte)
  | LD_HL_SPplus_e8 (e : Byte)
  | LD_A__a16 (a : Word)
  | CP_d8 (d : Byte)
  | STOP (b : Byte)
  | NOP
  | LD__BC__A
  | INC_BC
  | INC_B
  | DEC_B
  | RLCA
  | ADD_HL_BC
  | LD_A__BC
  | DEC_BC
  | INC_C
  | DEC_C
  | RRCA
  | LD__DE__A
  | INC_DE
  | INC_D
  | DEC_D
  | RLA
  | ADD_HL_DE
  | LD_A__DE
  | DEC_DE
  | INC_E
  | DEC_E
  | RRA
  | LD__HLinc__A
  | INC_HL
  | INC_H
  | DEC_H
  | DAA
  | ADD_HL_HL
  | LD_A__HLinc
  | DEC_HL
  | INC_L
  | DEC_L
  | CPL
  | LD__HLdec__A
  | INC_SP
  | INC__HL
  | DEC__HL
  | SCF
  | ADD_HL_SP
  | LD_A__HLdec
  | DEC_SP
  | INC_A
  | DEC_A
  | CCF
  | LD_B_B
  | LD_B_C
  | LD_B_D
  | LD_B_E
  | LD_B_H
  | LD_B_L
  | LD_B__HL
  | LD_B_A
  | LD_C_B
  | LD_C_C
  | LD_C_D
  | LD_C_E
  | LD_C_H
  | LD_C_L
  | LD_C__HL
  | LD_C_A
  | LD_D_B
  | LD_D_C
  | LD_D_D
  | LD_D_E
  | LD_D_H
  | LD_D_L
  | LD_D__HL
  | LD_D_A
  | LD_E_B
  | LD_E_C
  | LD_E_D
  | LD_E_E
  | LD_E_H
  | LD_E_L
  | LD_E__HL
  | LD_E_A
  | LD_H_B
  | LD_H_C
  | LD_H_D
  | LD_H_E
  | LD_H_H
  | LD_H_L
  | LD_H__HL
  | LD_H_A
  | LD_L_B
  | LD_L_C
  | LD_L_D
  | LD_L_E
  | LD_L_H
  | LD_L_L
  | LD_L__HL
  | LD_L_A
  | LD__HL__B
  | LD__HL__C
  | LD__HL__D
  | LD__HL__E
  | LD__HL__H
  | LD__HL__L
  | HALT
  | LD__HL__A
  | LD_A_B
  | LD_A_C
  | LD_A_D
  | LD_A_E
  | LD_A_H
  | LD_A_L
  | LD_A__HL
  | LD_A_A
  | ADD_A_B
  | ADD_A_C
  | ADD_A_D
  | ADD_A_E
  | ADD_A_H
  | ADD_A_L
  | ADD_A__HL
  | ADD_A_A
  | ADC_A_B
  | ADC_A_C
  | ADC_A_D
  | ADC_A_E
  | ADC_A_H
  | ADC_A_L
  | ADC_A__HL
  | ADC_A_A
  | SUB_B
  | SUB_C
  | SUB_D
  | SUB_E
  | SUB_H
  | SUB_L
  | SUB__HL
  | SUB_A
  | SBC_A_B
  | SBC_A_C
  | SBC_A_D
  | SBC_A_E
  | SBC_A_H
  | SBC_A_L
  | SBC_A__HL
  | SBC_A_A
  | AND_B
  | AND_C
  | AND_D
  | AND_E
  | AND_H
  | AND_L
  | AND__HL
  | AND_A
  | XOR_B
  | XOR_C
  | XOR_D
  | XOR_E
  | XOR_H
  | XOR_L
  | XOR__HL
  | XOR_A
  | OR_B
  | OR_C
  | OR_D
  | OR_E
  | OR_H
  | OR_L
  | OR__HL
  | OR_A
  | CP_B
  | CP_C
  | CP_D
  | CP_E
  | CP_H
  | CP_L
  | CP__HL
  | CP_A
  | RET_NZ
  | POP_BC
  | PUSH_BC
  | RST_0x00
  | RET_Z
  | RET
  | RST_0x08
  | RET_NC
  | POP_DE
  | ILLEGAL_0xD3
  | PUSH_DE
  | RST_0x10
  | RET_C
  | RETI
  | ILLEGAL_0xDB
  | ILLEGAL_0xDD
  | RST_0x18
  | POP_HL
  | LD__C__A
  | ILLEGAL_0xE3
  | ILLEGAL_0xE4
  | PUSH_HL
  | RST_0x20
  | JP_HL
  | ILLEGAL_0xEB
  | ILLEGAL_0xEC
  | ILLEGAL_0xED
  | RST_0x28
  | POP_AF
  | LD_A__C
  | DI
  | ILLEGAL_0xF4
  | PUSH_AF
  | RST_0x30
  | LD_SP_HL
  | EI
  | ILLEGAL_0xFC
  | ILLEGAL_0xFD
  | RST_0x38
  | RLC_B
  | RLC_C
  | RLC_D
  | RLC_E
  | RLC_H
  | RLC_L
  | RLC__HL
  | RLC_A
  | RRC_B
  | RRC_C
  | RRC_D
  | RRC_E
  | RRC_H
  | RRC_L
  | RRC__HL
  | RRC_A
  | RL_B
  | RL_C
  | RL_D
  | RL_E
  | RL_H
  | RL_L
  | RL__HL
  | RL_A
  | RR_B
  | RR_C
  | RR_D
  | RR_E
  | RR_H
  | RR_L
  | RR__HL
  | RR_A
  | SLA_B
  | SLA_C
  | SLA_D
  | SLA_E
  | SLA_H
  | SLA_L
  | SLA__HL
  | SLA_A
  | SRA_B
  | SRA_C
  | SRA_D
  | SRA_E
  | SRA_H
  | SRA_L
  | SRA__HL
  | SRA_A
  | SWAP_B
  | SWAP_C
  | SWAP_D
  | SWAP_E
  | SWAP_H
  | SWAP_L
  | SWAP__HL
  | SWAP_A
  | SRL_B
  | SRL_C
  | SRL_D
  | SRL_E
  | SRL_H
  | SRL_L
  | SRL__HL
  | SRL_A
  | BIT_0_B
  | BIT_0_C
  | BIT_0_D
  | BIT_0_E
  | BIT_0_H
  | BIT_0_L
  | BIT_0__HL
  | BIT_0_A
  | BIT_1_B
  | BIT_1_C
  | BIT_1_D
  | BIT_1_E
  | BIT_1_H
  | BIT_1_L
  | BIT_1__HL
  | BIT_1_A
  | BIT_2_B
  | BIT_2_C
  | BIT_2_D
  | BIT_2_E
  | BIT_2_H
  | BIT_2_L
  | BIT_2__HL
  | BIT_2_A
  | BIT_3_B
  | BIT_3_C
  | BIT_3_D
  | BIT_3_E
  | BIT_3_H
  | BIT_3_L
  | BIT_3__HL
  | BIT_3_A
  | BIT_4_B
  | BIT_4_C
  | BIT_4_D
  | BIT_4_E
  | BIT_4_H
  | BIT_4_L
  | BIT_4__HL
  | BIT_4_A
  | BIT_5_B
  | BIT_5_C
  | BIT_5_D
  | BIT_5_E
  | BIT_5_H
  | BIT_5_L
  | BIT_5__HL
  | BIT_5_A
  | BIT_6_B
  | BIT_6_C
  | BIT_6_D
  | BIT_6_E
  | BIT_6_H
  | BIT_6_L
  | BIT_6__HL
  | BIT_6_A
  | BIT_7_B
  | BIT_7_C
  | BIT_7_D
  | BIT_7_E
  | BIT_7_H
  | BIT_7_L
  | BIT_7__HL
  | BIT_7_A
  | RES_0_B
  | RES_0_C
  | RES_0_D
  | RES_0_E
  | RES_0_H
  | RES_0_L
  | RES_0__HL
  | RES_0_A
  | RES_1_B
  | RES_1_C
  | RES_1_D
  | RES_1_E
  | RES_1_H
  | RES_1_L
  | RES_1__HL
  | RES_1_A
  | RES_2_B
  | RES_2_C
  | RES_2_D
  | RES_2_E
  | RES_2_H
  | RES_2_L
  | RES_2__HL
  | RES_2_A
  | RES_3_B
  | RES_3_C
  | RES_3_D
  | RES_3_E
  | RES_3_H
  | RES_3_L
  | RES_3__HL
  | RES_3_A
  | RES_4_B
  | RES_4_C
  | RES_4_D
  | RES_4_E
  | RES_4_H
  | RES_4_L
  | RES_4__HL
  | RES_4_A
  | RES_5_B
  | RES_5_C
  | RES_5_D
  | RES_5_E
  | RES_5_H
  | RES_5_L
  | RES_5__HL
  | RES_5_A
  | RES_6_B
  | RES_6_C
  | RES_6_D
  | RES_6_E
  | RES_6_H
  | RES_6_L
  | RES_6__HL
  | RES_6_A
  | RES_7_B
  | RES_7_C
  | RES_7_D
  | RES_7_E
  | RES_7_H
  | RES_7_L
  | RES_7__HL
  | RES_7_A
  | SET_0_B
  | SET_0_C
  | SET_0_D
  | SET_0_E
  | SET_0_H
  | SET_0_L
  | SET_0__HL
  | SET_0_A
  | SET_1_B
  | SET_1_C
  | SET_1_D
  | SET_1_E
  | SET_1_H
  | SET_1_L
  | SET_1__HL
  | SET_1_A
  | SET_2_B
  | SET_2_C
  | SET_2_D
  | SET_2_E
  | SET_2_H
  | SET_2_L
  | SET_2__HL
  | SET_2_A
  | SET_3_B
  | SET_3_C
  | SET_3_D
  | SET_3_E
  | SET_3_H
  | SET_3_L
  | SET_3__HL
  | SET_3_A
  | SET_4_B
  | SET_4_C
  | SET_4_D
  | SET_4_E
  | SET_4_H
  | SET_4_L
  | SET_4__HL
  | SET_4_A
  | SET_5_B
  | SET_5_C
  | SET_5_D
  | SET_5_E
  | SET_5_H
  | SET_5_L
  | SET_5__HL
  | SET_5_A
  | SET_6_B
  | SET_6_C
  | SET_6_D
  | SET_6_E
  | SET_6_H
  | SET_6_L
  | SET_6__HL
  | SET_6_A
  | SET_7_B
  | SET_7_C
  | SET_7_D
  | SET_7_E
  | SET_7_H
  | SET_7_L
  | SET_7__HL
  | SET_7_A
deriving DecidableEq, Repr

/-- The operand form of each row (R201 to R208, R212, R213). -/
def Instr.form : Instr → Form
  | .NOP => .nop
  | .LD_BC_d16 d => .ldR16 .bc d
  | .LD__BC__A => .ldIndA .bc
  | .INC_BC => .incR16 .bc
  | .INC_B => .incR8 .b
  | .DEC_B => .decR8 .b
  | .LD_B_d8 d => .ldR8Imm .b d
  | .RLCA => .rotA .rlc
  | .LD__a16__SP a => .ldMemSp a
  | .ADD_HL_BC => .addHl .bc
  | .LD_A__BC => .ldAInd .bc
  | .DEC_BC => .decR16 .bc
  | .INC_C => .incR8 .c
  | .DEC_C => .decR8 .c
  | .LD_C_d8 d => .ldR8Imm .c d
  | .RRCA => .rotA .rrc
  | .LD_DE_d16 d => .ldR16 .de d
  | .LD__DE__A => .ldIndA .de
  | .INC_DE => .incR16 .de
  | .INC_D => .incR8 .d
  | .DEC_D => .decR8 .d
  | .LD_D_d8 d => .ldR8Imm .d d
  | .RLA => .rotA .rl
  | .JR_e8 e => .jr e
  | .ADD_HL_DE => .addHl .de
  | .LD_A__DE => .ldAInd .de
  | .DEC_DE => .decR16 .de
  | .INC_E => .incR8 .e
  | .DEC_E => .decR8 .e
  | .LD_E_d8 d => .ldR8Imm .e d
  | .RRA => .rotA .rr
  | .JR_NZ_e8 e => .jrCc .nz e
  | .LD_HL_d16 d => .ldR16 .hl d
  | .LD__HLinc__A => .ldIndA .hlInc
  | .INC_HL => .incR16 .hl
  | .INC_H => .incR8 .h
  | .DEC_H => .decR8 .h
  | .LD_H_d8 d => .ldR8Imm .h d
  | .DAA => .daa
  | .JR_Z_e8 e => .jrCc .z e
  | .ADD_HL_HL => .addHl .hl
  | .LD_A__HLinc => .ldAInd .hlInc
  | .DEC_HL => .decR16 .hl
  | .INC_L => .incR8 .l
  | .DEC_L => .decR8 .l
  | .LD_L_d8 d => .ldR8Imm .l d
  | .CPL => .cpl
  | .JR_NC_e8 e => .jrCc .nc e
  | .LD_SP_d16 d => .ldR16 .sp d
  | .LD__HLdec__A => .ldIndA .hlDec
  | .INC_SP => .incR16 .sp
  | .INC__HL => .incR8 .hlMem
  | .DEC__HL => .decR8 .hlMem
  | .LD__HL__d8 d => .ldR8Imm .hlMem d
  | .SCF => .scf
  | .JR_C_e8 e => .jrCc .c e
  | .ADD_HL_SP => .addHl .sp
  | .LD_A__HLdec => .ldAInd .hlDec
  | .DEC_SP => .decR16 .sp
  | .INC_A => .incR8 .a
  | .DEC_A => .decR8 .a
  | .LD_A_d8 d => .ldR8Imm .a d
  | .CCF => .ccf
  | .LD_B_B => .ldR8 .b .b
  | .LD_B_C => .ldR8 .b .c
  | .LD_B_D => .ldR8 .b .d
  | .LD_B_E => .ldR8 .b .e
  | .LD_B_H => .ldR8 .b .h
  | .LD_B_L => .ldR8 .b .l
  | .LD_B__HL => .ldR8 .b .hlMem
  | .LD_B_A => .ldR8 .b .a
  | .LD_C_B => .ldR8 .c .b
  | .LD_C_C => .ldR8 .c .c
  | .LD_C_D => .ldR8 .c .d
  | .LD_C_E => .ldR8 .c .e
  | .LD_C_H => .ldR8 .c .h
  | .LD_C_L => .ldR8 .c .l
  | .LD_C__HL => .ldR8 .c .hlMem
  | .LD_C_A => .ldR8 .c .a
  | .LD_D_B => .ldR8 .d .b
  | .LD_D_C => .ldR8 .d .c
  | .LD_D_D => .ldR8 .d .d
  | .LD_D_E => .ldR8 .d .e
  | .LD_D_H => .ldR8 .d .h
  | .LD_D_L => .ldR8 .d .l
  | .LD_D__HL => .ldR8 .d .hlMem
  | .LD_D_A => .ldR8 .d .a
  | .LD_E_B => .ldR8 .e .b
  | .LD_E_C => .ldR8 .e .c
  | .LD_E_D => .ldR8 .e .d
  | .LD_E_E => .ldR8 .e .e
  | .LD_E_H => .ldR8 .e .h
  | .LD_E_L => .ldR8 .e .l
  | .LD_E__HL => .ldR8 .e .hlMem
  | .LD_E_A => .ldR8 .e .a
  | .LD_H_B => .ldR8 .h .b
  | .LD_H_C => .ldR8 .h .c
  | .LD_H_D => .ldR8 .h .d
  | .LD_H_E => .ldR8 .h .e
  | .LD_H_H => .ldR8 .h .h
  | .LD_H_L => .ldR8 .h .l
  | .LD_H__HL => .ldR8 .h .hlMem
  | .LD_H_A => .ldR8 .h .a
  | .LD_L_B => .ldR8 .l .b
  | .LD_L_C => .ldR8 .l .c
  | .LD_L_D => .ldR8 .l .d
  | .LD_L_E => .ldR8 .l .e
  | .LD_L_H => .ldR8 .l .h
  | .LD_L_L => .ldR8 .l .l
  | .LD_L__HL => .ldR8 .l .hlMem
  | .LD_L_A => .ldR8 .l .a
  | .LD__HL__B => .ldR8 .hlMem .b
  | .LD__HL__C => .ldR8 .hlMem .c
  | .LD__HL__D => .ldR8 .hlMem .d
  | .LD__HL__E => .ldR8 .hlMem .e
  | .LD__HL__H => .ldR8 .hlMem .h
  | .LD__HL__L => .ldR8 .hlMem .l
  | .HALT => .halt
  | .LD__HL__A => .ldR8 .hlMem .a
  | .LD_A_B => .ldR8 .a .b
  | .LD_A_C => .ldR8 .a .c
  | .LD_A_D => .ldR8 .a .d
  | .LD_A_E => .ldR8 .a .e
  | .LD_A_H => .ldR8 .a .h
  | .LD_A_L => .ldR8 .a .l
  | .LD_A__HL => .ldR8 .a .hlMem
  | .LD_A_A => .ldR8 .a .a
  | .ADD_A_B => .alu .add .b
  | .ADD_A_C => .alu .add .c
  | .ADD_A_D => .alu .add .d
  | .ADD_A_E => .alu .add .e
  | .ADD_A_H => .alu .add .h
  | .ADD_A_L => .alu .add .l
  | .ADD_A__HL => .alu .add .hlMem
  | .ADD_A_A => .alu .add .a
  | .ADC_A_B => .alu .adc .b
  | .ADC_A_C => .alu .adc .c
  | .ADC_A_D => .alu .adc .d
  | .ADC_A_E => .alu .adc .e
  | .ADC_A_H => .alu .adc .h
  | .ADC_A_L => .alu .adc .l
  | .ADC_A__HL => .alu .adc .hlMem
  | .ADC_A_A => .alu .adc .a
  | .SUB_B => .alu .sub .b
  | .SUB_C => .alu .sub .c
  | .SUB_D => .alu .sub .d
  | .SUB_E => .alu .sub .e
  | .SUB_H => .alu .sub .h
  | .SUB_L => .alu .sub .l
  | .SUB__HL => .alu .sub .hlMem
  | .SUB_A => .alu .sub .a
  | .SBC_A_B => .alu .sbc .b
  | .SBC_A_C => .alu .sbc .c
  | .SBC_A_D => .alu .sbc .d
  | .SBC_A_E => .alu .sbc .e
  | .SBC_A_H => .alu .sbc .h
  | .SBC_A_L => .alu .sbc .l
  | .SBC_A__HL => .alu .sbc .hlMem
  | .SBC_A_A => .alu .sbc .a
  | .AND_B => .alu .and .b
  | .AND_C => .alu .and .c
  | .AND_D => .alu .and .d
  | .AND_E => .alu .and .e
  | .AND_H => .alu .and .h
  | .AND_L => .alu .and .l
  | .AND__HL => .alu .and .hlMem
  | .AND_A => .alu .and .a
  | .XOR_B => .alu .xor .b
  | .XOR_C => .alu .xor .c
  | .XOR_D => .alu .xor .d
  | .XOR_E => .alu .xor .e
  | .XOR_H => .alu .xor .h
  | .XOR_L => .alu .xor .l
  | .XOR__HL => .alu .xor .hlMem
  | .XOR_A => .alu .xor .a
  | .OR_B => .alu .or .b
  | .OR_C => .alu .or .c
  | .OR_D => .alu .or .d
  | .OR_E => .alu .or .e
  | .OR_H => .alu .or .h
  | .OR_L => .alu .or .l
  | .OR__HL => .alu .or .hlMem
  | .OR_A => .alu .or .a
  | .CP_B => .alu .cp .b
  | .CP_C => .alu .cp .c
  | .CP_D => .alu .cp .d
  | .CP_E => .alu .cp .e
  | .CP_H => .alu .cp .h
  | .CP_L => .alu .cp .l
  | .CP__HL => .alu .cp .hlMem
  | .CP_A => .alu .cp .a
  | .RET_NZ => .retCc .nz
  | .POP_BC => .pop .bc
  | .JP_NZ_a16 a => .jpCc .nz a
  | .JP_a16 a => .jp a
  | .CALL_NZ_a16 a => .callCc .nz a
  | .PUSH_BC => .push .bc
  | .ADD_A_d8 d => .aluImm .add d
  | .RST_0x00 => .rst 0
  | .RET_Z => .retCc .z
  | .RET => .ret
  | .JP_Z_a16 a => .jpCc .z a
  | .PREFIX_CB c => .prefixCb c
  | .CALL_Z_a16 a => .callCc .z a
  | .CALL_a16 a => .call a
  | .ADC_A_d8 d => .aluImm .adc d
  | .RST_0x08 => .rst 1
  | .RET_NC => .retCc .nc
  | .POP_DE => .pop .de
  | .JP_NC_a16 a => .jpCc .nc a
  | .ILLEGAL_0xD3 => .illegal 0xd3
  | .CALL_NC_a16 a => .callCc .nc a
  | .PUSH_DE => .push .de
  | .SUB_d8 d => .aluImm .sub d
  | .RST_0x10 => .rst 2
  | .RET_C => .retCc .c
  | .RETI => .reti
  | .JP_C_a16 a => .jpCc .c a
  | .ILLEGAL_0xDB => .illegal 0xdb
  | .CALL_C_a16 a => .callCc .c a
  | .ILLEGAL_0xDD => .illegal 0xdd
  | .SBC_A_d8 d => .aluImm .sbc d
  | .RST_0x18 => .rst 3
  | .LDH__a8__A a => .ldhStore a
  | .POP_HL => .pop .hl
  | .LD__C__A => .ldHighCA
  | .ILLEGAL_0xE3 => .illegal 0xe3
  | .ILLEGAL_0xE4 => .illegal 0xe4
  | .PUSH_HL => .push .hl
  | .AND_d8 d => .aluImm .and d
  | .RST_0x20 => .rst 4
  | .ADD_SP_e8 e => .addSp e
  | .JP_HL => .jpHl
  | .LD__a16__A a => .ldMemA a
  | .ILLEGAL_0xEB => .illegal 0xeb
  | .ILLEGAL_0xEC => .illegal 0xec
  | .ILLEGAL_0xED => .illegal 0xed
  | .XOR_d8 d => .aluImm .xor d
  | .RST_0x28 => .rst 5
  | .LDH_A__a8 a => .ldhLoad a
  | .POP_AF => .pop .af
  | .LD_A__C => .ldAHighC
  | .DI => .di
  | .ILLEGAL_0xF4 => .illegal 0xf4
  | .PUSH_AF => .push .af
  | .OR_d8 d => .aluImm .or d
  | .RST_0x30 => .rst 6
  | .LD_HL_SPplus_e8 e => .ldHlSp e
  | .LD_SP_HL => .ldSpHl
  | .LD_A__a16 a => .ldAMem a
  | .EI => .ei
  | .ILLEGAL_0xFC => .illegal 0xfc
  | .ILLEGAL_0xFD => .illegal 0xfd
  | .CP_d8 d => .aluImm .cp d
  | .RST_0x38 => .rst 7
  | .STOP b => .stop b
  | .RLC_B => .shift .rlc .b
  | .RLC_C => .shift .rlc .c
  | .RLC_D => .shift .rlc .d
  | .RLC_E => .shift .rlc .e
  | .RLC_H => .shift .rlc .h
  | .RLC_L => .shift .rlc .l
  | .RLC__HL => .shift .rlc .hlMem
  | .RLC_A => .shift .rlc .a
  | .RRC_B => .shift .rrc .b
  | .RRC_C => .shift .rrc .c
  | .RRC_D => .shift .rrc .d
  | .RRC_E => .shift .rrc .e
  | .RRC_H => .shift .rrc .h
  | .RRC_L => .shift .rrc .l
  | .RRC__HL => .shift .rrc .hlMem
  | .RRC_A => .shift .rrc .a
  | .RL_B => .shift .rl .b
  | .RL_C => .shift .rl .c
  | .RL_D => .shift .rl .d
  | .RL_E => .shift .rl .e
  | .RL_H => .shift .rl .h
  | .RL_L => .shift .rl .l
  | .RL__HL => .shift .rl .hlMem
  | .RL_A => .shift .rl .a
  | .RR_B => .shift .rr .b
  | .RR_C => .shift .rr .c
  | .RR_D => .shift .rr .d
  | .RR_E => .shift .rr .e
  | .RR_H => .shift .rr .h
  | .RR_L => .shift .rr .l
  | .RR__HL => .shift .rr .hlMem
  | .RR_A => .shift .rr .a
  | .SLA_B => .shift .sla .b
  | .SLA_C => .shift .sla .c
  | .SLA_D => .shift .sla .d
  | .SLA_E => .shift .sla .e
  | .SLA_H => .shift .sla .h
  | .SLA_L => .shift .sla .l
  | .SLA__HL => .shift .sla .hlMem
  | .SLA_A => .shift .sla .a
  | .SRA_B => .shift .sra .b
  | .SRA_C => .shift .sra .c
  | .SRA_D => .shift .sra .d
  | .SRA_E => .shift .sra .e
  | .SRA_H => .shift .sra .h
  | .SRA_L => .shift .sra .l
  | .SRA__HL => .shift .sra .hlMem
  | .SRA_A => .shift .sra .a
  | .SWAP_B => .shift .swap .b
  | .SWAP_C => .shift .swap .c
  | .SWAP_D => .shift .swap .d
  | .SWAP_E => .shift .swap .e
  | .SWAP_H => .shift .swap .h
  | .SWAP_L => .shift .swap .l
  | .SWAP__HL => .shift .swap .hlMem
  | .SWAP_A => .shift .swap .a
  | .SRL_B => .shift .srl .b
  | .SRL_C => .shift .srl .c
  | .SRL_D => .shift .srl .d
  | .SRL_E => .shift .srl .e
  | .SRL_H => .shift .srl .h
  | .SRL_L => .shift .srl .l
  | .SRL__HL => .shift .srl .hlMem
  | .SRL_A => .shift .srl .a
  | .BIT_0_B => .bit 0 .b
  | .BIT_0_C => .bit 0 .c
  | .BIT_0_D => .bit 0 .d
  | .BIT_0_E => .bit 0 .e
  | .BIT_0_H => .bit 0 .h
  | .BIT_0_L => .bit 0 .l
  | .BIT_0__HL => .bit 0 .hlMem
  | .BIT_0_A => .bit 0 .a
  | .BIT_1_B => .bit 1 .b
  | .BIT_1_C => .bit 1 .c
  | .BIT_1_D => .bit 1 .d
  | .BIT_1_E => .bit 1 .e
  | .BIT_1_H => .bit 1 .h
  | .BIT_1_L => .bit 1 .l
  | .BIT_1__HL => .bit 1 .hlMem
  | .BIT_1_A => .bit 1 .a
  | .BIT_2_B => .bit 2 .b
  | .BIT_2_C => .bit 2 .c
  | .BIT_2_D => .bit 2 .d
  | .BIT_2_E => .bit 2 .e
  | .BIT_2_H => .bit 2 .h
  | .BIT_2_L => .bit 2 .l
  | .BIT_2__HL => .bit 2 .hlMem
  | .BIT_2_A => .bit 2 .a
  | .BIT_3_B => .bit 3 .b
  | .BIT_3_C => .bit 3 .c
  | .BIT_3_D => .bit 3 .d
  | .BIT_3_E => .bit 3 .e
  | .BIT_3_H => .bit 3 .h
  | .BIT_3_L => .bit 3 .l
  | .BIT_3__HL => .bit 3 .hlMem
  | .BIT_3_A => .bit 3 .a
  | .BIT_4_B => .bit 4 .b
  | .BIT_4_C => .bit 4 .c
  | .BIT_4_D => .bit 4 .d
  | .BIT_4_E => .bit 4 .e
  | .BIT_4_H => .bit 4 .h
  | .BIT_4_L => .bit 4 .l
  | .BIT_4__HL => .bit 4 .hlMem
  | .BIT_4_A => .bit 4 .a
  | .BIT_5_B => .bit 5 .b
  | .BIT_5_C => .bit 5 .c
  | .BIT_5_D => .bit 5 .d
  | .BIT_5_E => .bit 5 .e
  | .BIT_5_H => .bit 5 .h
  | .BIT_5_L => .bit 5 .l
  | .BIT_5__HL => .bit 5 .hlMem
  | .BIT_5_A => .bit 5 .a
  | .BIT_6_B => .bit 6 .b
  | .BIT_6_C => .bit 6 .c
  | .BIT_6_D => .bit 6 .d
  | .BIT_6_E => .bit 6 .e
  | .BIT_6_H => .bit 6 .h
  | .BIT_6_L => .bit 6 .l
  | .BIT_6__HL => .bit 6 .hlMem
  | .BIT_6_A => .bit 6 .a
  | .BIT_7_B => .bit 7 .b
  | .BIT_7_C => .bit 7 .c
  | .BIT_7_D => .bit 7 .d
  | .BIT_7_E => .bit 7 .e
  | .BIT_7_H => .bit 7 .h
  | .BIT_7_L => .bit 7 .l
  | .BIT_7__HL => .bit 7 .hlMem
  | .BIT_7_A => .bit 7 .a
  | .RES_0_B => .res 0 .b
  | .RES_0_C => .res 0 .c
  | .RES_0_D => .res 0 .d
  | .RES_0_E => .res 0 .e
  | .RES_0_H => .res 0 .h
  | .RES_0_L => .res 0 .l
  | .RES_0__HL => .res 0 .hlMem
  | .RES_0_A => .res 0 .a
  | .RES_1_B => .res 1 .b
  | .RES_1_C => .res 1 .c
  | .RES_1_D => .res 1 .d
  | .RES_1_E => .res 1 .e
  | .RES_1_H => .res 1 .h
  | .RES_1_L => .res 1 .l
  | .RES_1__HL => .res 1 .hlMem
  | .RES_1_A => .res 1 .a
  | .RES_2_B => .res 2 .b
  | .RES_2_C => .res 2 .c
  | .RES_2_D => .res 2 .d
  | .RES_2_E => .res 2 .e
  | .RES_2_H => .res 2 .h
  | .RES_2_L => .res 2 .l
  | .RES_2__HL => .res 2 .hlMem
  | .RES_2_A => .res 2 .a
  | .RES_3_B => .res 3 .b
  | .RES_3_C => .res 3 .c
  | .RES_3_D => .res 3 .d
  | .RES_3_E => .res 3 .e
  | .RES_3_H => .res 3 .h
  | .RES_3_L => .res 3 .l
  | .RES_3__HL => .res 3 .hlMem
  | .RES_3_A => .res 3 .a
  | .RES_4_B => .res 4 .b
  | .RES_4_C => .res 4 .c
  | .RES_4_D => .res 4 .d
  | .RES_4_E => .res 4 .e
  | .RES_4_H => .res 4 .h
  | .RES_4_L => .res 4 .l
  | .RES_4__HL => .res 4 .hlMem
  | .RES_4_A => .res 4 .a
  | .RES_5_B => .res 5 .b
  | .RES_5_C => .res 5 .c
  | .RES_5_D => .res 5 .d
  | .RES_5_E => .res 5 .e
  | .RES_5_H => .res 5 .h
  | .RES_5_L => .res 5 .l
  | .RES_5__HL => .res 5 .hlMem
  | .RES_5_A => .res 5 .a
  | .RES_6_B => .res 6 .b
  | .RES_6_C => .res 6 .c
  | .RES_6_D => .res 6 .d
  | .RES_6_E => .res 6 .e
  | .RES_6_H => .res 6 .h
  | .RES_6_L => .res 6 .l
  | .RES_6__HL => .res 6 .hlMem
  | .RES_6_A => .res 6 .a
  | .RES_7_B => .res 7 .b
  | .RES_7_C => .res 7 .c
  | .RES_7_D => .res 7 .d
  | .RES_7_E => .res 7 .e
  | .RES_7_H => .res 7 .h
  | .RES_7_L => .res 7 .l
  | .RES_7__HL => .res 7 .hlMem
  | .RES_7_A => .res 7 .a
  | .SET_0_B => .set 0 .b
  | .SET_0_C => .set 0 .c
  | .SET_0_D => .set 0 .d
  | .SET_0_E => .set 0 .e
  | .SET_0_H => .set 0 .h
  | .SET_0_L => .set 0 .l
  | .SET_0__HL => .set 0 .hlMem
  | .SET_0_A => .set 0 .a
  | .SET_1_B => .set 1 .b
  | .SET_1_C => .set 1 .c
  | .SET_1_D => .set 1 .d
  | .SET_1_E => .set 1 .e
  | .SET_1_H => .set 1 .h
  | .SET_1_L => .set 1 .l
  | .SET_1__HL => .set 1 .hlMem
  | .SET_1_A => .set 1 .a
  | .SET_2_B => .set 2 .b
  | .SET_2_C => .set 2 .c
  | .SET_2_D => .set 2 .d
  | .SET_2_E => .set 2 .e
  | .SET_2_H => .set 2 .h
  | .SET_2_L => .set 2 .l
  | .SET_2__HL => .set 2 .hlMem
  | .SET_2_A => .set 2 .a
  | .SET_3_B => .set 3 .b
  | .SET_3_C => .set 3 .c
  | .SET_3_D => .set 3 .d
  | .SET_3_E => .set 3 .e
  | .SET_3_H => .set 3 .h
  | .SET_3_L => .set 3 .l
  | .SET_3__HL => .set 3 .hlMem
  | .SET_3_A => .set 3 .a
  | .SET_4_B => .set 4 .b
  | .SET_4_C => .set 4 .c
  | .SET_4_D => .set 4 .d
  | .SET_4_E => .set 4 .e
  | .SET_4_H => .set 4 .h
  | .SET_4_L => .set 4 .l
  | .SET_4__HL => .set 4 .hlMem
  | .SET_4_A => .set 4 .a
  | .SET_5_B => .set 5 .b
  | .SET_5_C => .set 5 .c
  | .SET_5_D => .set 5 .d
  | .SET_5_E => .set 5 .e
  | .SET_5_H => .set 5 .h
  | .SET_5_L => .set 5 .l
  | .SET_5__HL => .set 5 .hlMem
  | .SET_5_A => .set 5 .a
  | .SET_6_B => .set 6 .b
  | .SET_6_C => .set 6 .c
  | .SET_6_D => .set 6 .d
  | .SET_6_E => .set 6 .e
  | .SET_6_H => .set 6 .h
  | .SET_6_L => .set 6 .l
  | .SET_6__HL => .set 6 .hlMem
  | .SET_6_A => .set 6 .a
  | .SET_7_B => .set 7 .b
  | .SET_7_C => .set 7 .c
  | .SET_7_D => .set 7 .d
  | .SET_7_E => .set 7 .e
  | .SET_7_H => .set 7 .h
  | .SET_7_L => .set 7 .l
  | .SET_7__HL => .set 7 .hlMem
  | .SET_7_A => .set 7 .a

/-- How many bytes an instruction of this form has (R200). -/
def Form.length : Form → Nat
  | .ldR8Imm _ _ | .ldhLoad _ | .ldhStore _ | .ldHlSp _ | .aluImm _ _ | .addSp _ | .jr _ | .jrCc _ _ | .stop _ => 2
  | .shift _ _ | .bit _ _ | .res _ _ | .set _ _ | .prefixCb _ => 2
  | .ldAMem _ | .ldMemA _ | .ldR16 _ _ | .ldMemSp _ | .jp _ | .jpCc _ _ | .call _ | .callCc _ _ => 3
  | _ => 1

/-- The length of an instruction in bytes (R200; the `length` column of spec/opcode_table.json). -/
def Instr.length (i : Instr) : Nat := i.form.length

end Sys2Proof
end

