-- ==== Sys2Proof/WellFormed.lean ====
section
/-! DEFINITION. Which instructions are well formed: those that some sequence of bytes encodes
(spec/30_encoding.md R215, R217). -/

namespace Sys2Proof

/-- The second byte of `STOP` is 0x00 (R215). -/
def stopByteOk : Instr → Bool
  | .STOP b => b == 0
  | _ => true

/-- 0xCB "is not an instruction by itself" (R217, R421): its two bytes are those of a CB row, which is what they
decode to, so the prefix row's own constructor is never the reading of any bytes (log entry 4). -/
def notBarePrefix : Instr → Bool
  | .PREFIX_CB _ => false
  | _ => true

/-- An instruction that some bytes encode. -/
def Instr.wellFormed (i : Instr) : Bool := stopByteOk i && notBarePrefix i

end Sys2Proof
end

