-- ==== Sys2Proof/Decode.lean ====
section
/-! DEFINITION. The decoder and the encoder (spec/30_encoding.md). The decoder is total on byte lists and
rejects by name; its two tables are the opcode maps of R212 and R213, one list per line of the map. The encoder is
written from the encodings of the instruction rules (files 40 to 46) and of spec/opcode_table.json. -/

namespace Sys2Proof

/-- Why bytes are not an instruction: too few of them, or 0x10 followed by a byte other than 0x00 (R215). -/
inductive DecodeError where
  | truncated
  | stopSecondByte (b : Byte)
deriving DecidableEq, Repr

/-- Line 0x of the primary opcode map (R212): each cell takes the two bytes after the opcode. -/
def primaryLine0 : List (Byte → Byte → Instr) :=
  [fun _ _ => .NOP,
   fun lo hi => .LD_BC_d16 (hi ++ lo),
   fun _ _ => .LD__BC__A,
   fun _ _ => .INC_BC,
   fun _ _ => .INC_B,
   fun _ _ => .DEC_B,
   fun n _ => .LD_B_d8 n,
   fun _ _ => .RLCA,
   fun lo hi => .LD__a16__SP (hi ++ lo),
   fun _ _ => .ADD_HL_BC,
   fun _ _ => .LD_A__BC,
   fun _ _ => .DEC_BC,
   fun _ _ => .INC_C,
   fun _ _ => .DEC_C,
   fun n _ => .LD_C_d8 n,
   fun _ _ => .RRCA]

/-- Line 1x of the primary opcode map (R212): each cell takes the two bytes after the opcode. -/
def primaryLine1 : List (Byte → Byte → Instr) :=
  [fun n _ => .STOP n,
   fun lo hi => .LD_DE_d16 (hi ++ lo),
   fun _ _ => .LD__DE__A,
   fun _ _ => .INC_DE,
   fun _ _ => .INC_D,
   fun _ _ => .DEC_D,
   fun n _ => .LD_D_d8 n,
   fun _ _ => .RLA,
   fun n _ => .JR_e8 n,
   fun _ _ => .ADD_HL_DE,
   fun _ _ => .LD_A__DE,
   fun _ _ => .DEC_DE,
   fun _ _ => .INC_E,
   fun _ _ => .DEC_E,
   fun n _ => .LD_E_d8 n,
   fun _ _ => .RRA]

/-- Line 2x of the primary opcode map (R212): each cell takes the two bytes after the opcode. -/
def primaryLine2 : List (Byte → Byte → Instr) :=
  [fun n _ => .JR_NZ_e8 n,
   fun lo hi => .LD_HL_d16 (hi ++ lo),
   fun _ _ => .LD__HLinc__A,
   fun _ _ => .INC_HL,
   fun _ _ => .INC_H,
   fun _ _ => .DEC_H,
   fun n _ => .LD_H_d8 n,
   fun _ _ => .DAA,
   fun n _ => .JR_Z_e8 n,
   fun _ _ => .ADD_HL_HL,
   fun _ _ => .LD_A__HLinc,
   fun _ _ => .DEC_HL,
   fun _ _ => .INC_L,
   fun _ _ => .DEC_L,
   fun n _ => .LD_L_d8 n,
   fun _ _ => .CPL]

/-- Line 3x of the primary opcode map (R212): each cell takes the two bytes after the opcode. -/
def primaryLine3 : List (Byte → Byte → Instr) :=
  [fun n _ => .JR_NC_e8 n,
   fun lo hi => .LD_SP_d16 (hi ++ lo),
   fun _ _ => .LD__HLdec__A,
   fun _ _ => .INC_SP,
   fun _ _ => .INC__HL,
   fun _ _ => .DEC__HL,
   fun n _ => .LD__HL__d8 n,
   fun _ _ => .SCF,
   fun n _ => .JR_C_e8 n,
   fun _ _ => .ADD_HL_SP,
   fun _ _ => .LD_A__HLdec,
   fun _ _ => .DEC_SP,
   fun _ _ => .INC_A,
   fun _ _ => .DEC_A,
   fun n _ => .LD_A_d8 n,
   fun _ _ => .CCF]

/-- Line 4x of the primary opcode map (R212): each cell takes the two bytes after the opcode. -/
def primaryLine4 : List (Byte → Byte → Instr) :=
  [fun _ _ => .LD_B_B,
   fun _ _ => .LD_B_C,
   fun _ _ => .LD_B_D,
   fun _ _ => .LD_B_E,
   fun _ _ => .LD_B_H,
   fun _ _ => .LD_B_L,
   fun _ _ => .LD_B__HL,
   fun _ _ => .LD_B_A,
   fun _ _ => .LD_C_B,
   fun _ _ => .LD_C_C,
   fun _ _ => .LD_C_D,
   fun _ _ => .LD_C_E,
   fun _ _ => .LD_C_H,
   fun _ _ => .LD_C_L,
   fun _ _ => .LD_C__HL,
   fun _ _ => .LD_C_A]

/-- Line 5x of the primary opcode map (R212): each cell takes the two bytes after the opcode. -/
def primaryLine5 : List (Byte → Byte → Instr) :=
  [fun _ _ => .LD_D_B,
   fun _ _ => .LD_D_C,
   fun _ _ => .LD_D_D,
   fun _ _ => .LD_D_E,
   fun _ _ => .LD_D_H,
   fun _ _ => .LD_D_L,
   fun _ _ => .LD_D__HL,
   fun _ _ => .LD_D_A,
   fun _ _ => .LD_E_B,
   fun _ _ => .LD_E_C,
   fun _ _ => .LD_E_D,
   fun _ _ => .LD_E_E,
   fun _ _ => .LD_E_H,
   fun _ _ => .LD_E_L,
   fun _ _ => .LD_E__HL,
   fun _ _ => .LD_E_A]

/-- Line 6x of the primary opcode map (R212): each cell takes the two bytes after the opcode. -/
def primaryLine6 : List (Byte → Byte → Instr) :=
  [fun _ _ => .LD_H_B,
   fun _ _ => .LD_H_C,
   fun _ _ => .LD_H_D,
   fun _ _ => .LD_H_E,
   fun _ _ => .LD_H_H,
   fun _ _ => .LD_H_L,
   fun _ _ => .LD_H__HL,
   fun _ _ => .LD_H_A,
   fun _ _ => .LD_L_B,
   fun _ _ => .LD_L_C,
   fun _ _ => .LD_L_D,
   fun _ _ => .LD_L_E,
   fun _ _ => .LD_L_H,
   fun _ _ => .LD_L_L,
   fun _ _ => .LD_L__HL,
   fun _ _ => .LD_L_A]

/-- Line 7x of the primary opcode map (R212): each cell takes the two bytes after the opcode. -/
def primaryLine7 : List (Byte → Byte → Instr) :=
  [fun _ _ => .LD__HL__B,
   fun _ _ => .LD__HL__C,
   fun _ _ => .LD__HL__D,
   fun _ _ => .LD__HL__E,
   fun _ _ => .LD__HL__H,
   fun _ _ => .LD__HL__L,
   fun _ _ => .HALT,
   fun _ _ => .LD__HL__A,
   fun _ _ => .LD_A_B,
   fun _ _ => .LD_A_C,
   fun _ _ => .LD_A_D,
   fun _ _ => .LD_A_E,
   fun _ _ => .LD_A_H,
   fun _ _ => .LD_A_L,
   fun _ _ => .LD_A__HL,
   fun _ _ => .LD_A_A]

/-- Line 8x of the primary opcode map (R212): each cell takes the two bytes after the opcode. -/
def primaryLine8 : List (Byte → Byte → Instr) :=
  [fun _ _ => .ADD_A_B,
   fun _ _ => .ADD_A_C,
   fun _ _ => .ADD_A_D,
   fun _ _ => .ADD_A_E,
   fun _ _ => .ADD_A_H,
   fun _ _ => .ADD_A_L,
   fun _ _ => .ADD_A__HL,
   fun _ _ => .ADD_A_A,
   fun _ _ => .ADC_A_B,
   fun _ _ => .ADC_A_C,
   fun _ _ => .ADC_A_D,
   fun _ _ => .ADC_A_E,
   fun _ _ => .ADC_A_H,
   fun _ _ => .ADC_A_L,
   fun _ _ => .ADC_A__HL,
   fun _ _ => .ADC_A_A]

/-- Line 9x of the primary opcode map (R212): each cell takes the two bytes after the opcode. -/
def primaryLine9 : List (Byte → Byte → Instr) :=
  [fun _ _ => .SUB_B,
   fun _ _ => .SUB_C,
   fun _ _ => .SUB_D,
   fun _ _ => .SUB_E,
   fun _ _ => .SUB_H,
   fun _ _ => .SUB_L,
   fun _ _ => .SUB__HL,
   fun _ _ => .SUB_A,
   fun _ _ => .SBC_A_B,
   fun _ _ => .SBC_A_C,
   fun _ _ => .SBC_A_D,
   fun _ _ => .SBC_A_E,
   fun _ _ => .SBC_A_H,
   fun _ _ => .SBC_A_L,
   fun _ _ => .SBC_A__HL,
   fun _ _ => .SBC_A_A]

/-- Line Ax of the primary opcode map (R212): each cell takes the two bytes after the opcode. -/
def primaryLineA : List (Byte → Byte → Instr) :=
  [fun _ _ => .AND_B,
   fun _ _ => .AND_C,
   fun _ _ => .AND_D,
   fun _ _ => .AND_E,
   fun _ _ => .AND_H,
   fun _ _ => .AND_L,
   fun _ _ => .AND__HL,
   fun _ _ => .AND_A,
   fun _ _ => .XOR_B,
   fun _ _ => .XOR_C,
   fun _ _ => .XOR_D,
   fun _ _ => .XOR_E,
   fun _ _ => .XOR_H,
   fun _ _ => .XOR_L,
   fun _ _ => .XOR__HL,
   fun _ _ => .XOR_A]

/-- Line Bx of the primary opcode map (R212): each cell takes the two bytes after the opcode. -/
def primaryLineB : List (Byte → Byte → Instr) :=
  [fun _ _ => .OR_B,
   fun _ _ => .OR_C,
   fun _ _ => .OR_D,
   fun _ _ => .OR_E,
   fun _ _ => .OR_H,
   fun _ _ => .OR_L,
   fun _ _ => .OR__HL,
   fun _ _ => .OR_A,
   fun _ _ => .CP_B,
   fun _ _ => .CP_C,
   fun _ _ => .CP_D,
   fun _ _ => .CP_E,
   fun _ _ => .CP_H,
   fun _ _ => .CP_L,
   fun _ _ => .CP__HL,
   fun _ _ => .CP_A]

/-- Line Cx of the primary opcode map (R212): each cell takes the two bytes after the opcode. -/
def primaryLineC : List (Byte → Byte → Instr) :=
  [fun _ _ => .RET_NZ,
   fun _ _ => .POP_BC,
   fun lo hi => .JP_NZ_a16 (hi ++ lo),
   fun lo hi => .JP_a16 (hi ++ lo),
   fun lo hi => .CALL_NZ_a16 (hi ++ lo),
   fun _ _ => .PUSH_BC,
   fun n _ => .ADD_A_d8 n,
   fun _ _ => .RST_0x00,
   fun _ _ => .RET_Z,
   fun _ _ => .RET,
   fun lo hi => .JP_Z_a16 (hi ++ lo),
   fun n _ => .PREFIX_CB n,
   fun lo hi => .CALL_Z_a16 (hi ++ lo),
   fun lo hi => .CALL_a16 (hi ++ lo),
   fun n _ => .ADC_A_d8 n,
   fun _ _ => .RST_0x08]

/-- Line Dx of the primary opcode map (R212): each cell takes the two bytes after the opcode. -/
def primaryLineD : List (Byte → Byte → Instr) :=
  [fun _ _ => .RET_NC,
   fun _ _ => .POP_DE,
   fun lo hi => .JP_NC_a16 (hi ++ lo),
   fun _ _ => .ILLEGAL_0xD3,
   fun lo hi => .CALL_NC_a16 (hi ++ lo),
   fun _ _ => .PUSH_DE,
   fun n _ => .SUB_d8 n,
   fun _ _ => .RST_0x10,
   fun _ _ => .RET_C,
   fun _ _ => .RETI,
   fun lo hi => .JP_C_a16 (hi ++ lo),
   fun _ _ => .ILLEGAL_0xDB,
   fun lo hi => .CALL_C_a16 (hi ++ lo),
   fun _ _ => .ILLEGAL_0xDD,
   fun n _ => .SBC_A_d8 n,
   fun _ _ => .RST_0x18]

/-- Line Ex of the primary opcode map (R212): each cell takes the two bytes after the opcode. -/
def primaryLineE : List (Byte → Byte → Instr) :=
  [fun n _ => .LDH__a8__A n,
   fun _ _ => .POP_HL,
   fun _ _ => .LD__C__A,
   fun _ _ => .ILLEGAL_0xE3,
   fun _ _ => .ILLEGAL_0xE4,
   fun _ _ => .PUSH_HL,
   fun n _ => .AND_d8 n,
   fun _ _ => .RST_0x20,
   fun n _ => .ADD_SP_e8 n,
   fun _ _ => .JP_HL,
   fun lo hi => .LD__a16__A (hi ++ lo),
   fun _ _ => .ILLEGAL_0xEB,
   fun _ _ => .ILLEGAL_0xEC,
   fun _ _ => .ILLEGAL_0xED,
   fun n _ => .XOR_d8 n,
   fun _ _ => .RST_0x28]

/-- Line Fx of the primary opcode map (R212): each cell takes the two bytes after the opcode. -/
def primaryLineF : List (Byte → Byte → Instr) :=
  [fun n _ => .LDH_A__a8 n,
   fun _ _ => .POP_AF,
   fun _ _ => .LD_A__C,
   fun _ _ => .DI,
   fun _ _ => .ILLEGAL_0xF4,
   fun _ _ => .PUSH_AF,
   fun n _ => .OR_d8 n,
   fun _ _ => .RST_0x30,
   fun n _ => .LD_HL_SPplus_e8 n,
   fun _ _ => .LD_SP_HL,
   fun lo hi => .LD_A__a16 (hi ++ lo),
   fun _ _ => .EI,
   fun _ _ => .ILLEGAL_0xFC,
   fun _ _ => .ILLEGAL_0xFD,
   fun n _ => .CP_d8 n,
   fun _ _ => .RST_0x38]

/-- Line 0x of the CB opcode map (R213, R208). -/
def cbLine0 : List Instr :=
  [.RLC_B, .RLC_C, .RLC_D, .RLC_E,
   .RLC_H, .RLC_L, .RLC__HL, .RLC_A,
   .RRC_B, .RRC_C, .RRC_D, .RRC_E,
   .RRC_H, .RRC_L, .RRC__HL, .RRC_A]

/-- Line 1x of the CB opcode map (R213, R208). -/
def cbLine1 : List Instr :=
  [.RL_B, .RL_C, .RL_D, .RL_E,
   .RL_H, .RL_L, .RL__HL, .RL_A,
   .RR_B, .RR_C, .RR_D, .RR_E,
   .RR_H, .RR_L, .RR__HL, .RR_A]

/-- Line 2x of the CB opcode map (R213, R208). -/
def cbLine2 : List Instr :=
  [.SLA_B, .SLA_C, .SLA_D, .SLA_E,
   .SLA_H, .SLA_L, .SLA__HL, .SLA_A,
   .SRA_B, .SRA_C, .SRA_D, .SRA_E,
   .SRA_H, .SRA_L, .SRA__HL, .SRA_A]

/-- Line 3x of the CB opcode map (R213, R208). -/
def cbLine3 : List Instr :=
  [.SWAP_B, .SWAP_C, .SWAP_D, .SWAP_E,
   .SWAP_H, .SWAP_L, .SWAP__HL, .SWAP_A,
   .SRL_B, .SRL_C, .SRL_D, .SRL_E,
   .SRL_H, .SRL_L, .SRL__HL, .SRL_A]

/-- Line 4x of the CB opcode map (R213, R208). -/
def cbLine4 : List Instr :=
  [.BIT_0_B, .BIT_0_C, .BIT_0_D, .BIT_0_E,
   .BIT_0_H, .BIT_0_L, .BIT_0__HL, .BIT_0_A,
   .BIT_1_B, .BIT_1_C, .BIT_1_D, .BIT_1_E,
   .BIT_1_H, .BIT_1_L, .BIT_1__HL, .BIT_1_A]

/-- Line 5x of the CB opcode map (R213, R208). -/
def cbLine5 : List Instr :=
  [.BIT_2_B, .BIT_2_C, .BIT_2_D, .BIT_2_E,
   .BIT_2_H, .BIT_2_L, .BIT_2__HL, .BIT_2_A,
   .BIT_3_B, .BIT_3_C, .BIT_3_D, .BIT_3_E,
   .BIT_3_H, .BIT_3_L, .BIT_3__HL, .BIT_3_A]

/-- Line 6x of the CB opcode map (R213, R208). -/
def cbLine6 : List Instr :=
  [.BIT_4_B, .BIT_4_C, .BIT_4_D, .BIT_4_E,
   .BIT_4_H, .BIT_4_L, .BIT_4__HL, .BIT_4_A,
   .BIT_5_B, .BIT_5_C, .BIT_5_D, .BIT_5_E,
   .BIT_5_H, .BIT_5_L, .BIT_5__HL, .BIT_5_A]

/-- Line 7x of the CB opcode map (R213, R208). -/
def cbLine7 : List Instr :=
  [.BIT_6_B, .BIT_6_C, .BIT_6_D, .BIT_6_E,
   .BIT_6_H, .BIT_6_L, .BIT_6__HL, .BIT_6_A,
   .BIT_7_B, .BIT_7_C, .BIT_7_D, .BIT_7_E,
   .BIT_7_H, .BIT_7_L, .BIT_7__HL, .BIT_7_A]

/-- Line 8x of the CB opcode map (R213, R208). -/
def cbLine8 : List Instr :=
  [.RES_0_B, .RES_0_C, .RES_0_D, .RES_0_E,
   .RES_0_H, .RES_0_L, .RES_0__HL, .RES_0_A,
   .RES_1_B, .RES_1_C, .RES_1_D, .RES_1_E,
   .RES_1_H, .RES_1_L, .RES_1__HL, .RES_1_A]

/-- Line 9x of the CB opcode map (R213, R208). -/
def cbLine9 : List Instr :=
  [.RES_2_B, .RES_2_C, .RES_2_D, .RES_2_E,
   .RES_2_H, .RES_2_L, .RES_2__HL, .RES_2_A,
   .RES_3_B, .RES_3_C, .RES_3_D, .RES_3_E,
   .RES_3_H, .RES_3_L, .RES_3__HL, .RES_3_A]

/-- Line Ax of the CB opcode map (R213, R208). -/
def cbLineA : List Instr :=
  [.RES_4_B, .RES_4_C, .RES_4_D, .RES_4_E,
   .RES_4_H, .RES_4_L, .RES_4__HL, .RES_4_A,
   .RES_5_B, .RES_5_C, .RES_5_D, .RES_5_E,
   .RES_5_H, .RES_5_L, .RES_5__HL, .RES_5_A]

/-- Line Bx of the CB opcode map (R213, R208). -/
def cbLineB : List Instr :=
  [.RES_6_B, .RES_6_C, .RES_6_D, .RES_6_E,
   .RES_6_H, .RES_6_L, .RES_6__HL, .RES_6_A,
   .RES_7_B, .RES_7_C, .RES_7_D, .RES_7_E,
   .RES_7_H, .RES_7_L, .RES_7__HL, .RES_7_A]

/-- Line Cx of the CB opcode map (R213, R208). -/
def cbLineC : List Instr :=
  [.SET_0_B, .SET_0_C, .SET_0_D, .SET_0_E,
   .SET_0_H, .SET_0_L, .SET_0__HL, .SET_0_A,
   .SET_1_B, .SET_1_C, .SET_1_D, .SET_1_E,
   .SET_1_H, .SET_1_L, .SET_1__HL, .SET_1_A]

/-- Line Dx of the CB opcode map (R213, R208). -/
def cbLineD : List Instr :=
  [.SET_2_B, .SET_2_C, .SET_2_D, .SET_2_E,
   .SET_2_H, .SET_2_L, .SET_2__HL, .SET_2_A,
   .SET_3_B, .SET_3_C, .SET_3_D, .SET_3_E,
   .SET_3_H, .SET_3_L, .SET_3__HL, .SET_3_A]

/-- Line Ex of the CB opcode map (R213, R208). -/
def cbLineE : List Instr :=
  [.SET_4_B, .SET_4_C, .SET_4_D, .SET_4_E,
   .SET_4_H, .SET_4_L, .SET_4__HL, .SET_4_A,
   .SET_5_B, .SET_5_C, .SET_5_D, .SET_5_E,
   .SET_5_H, .SET_5_L, .SET_5__HL, .SET_5_A]

/-- Line Fx of the CB opcode map (R213, R208). -/
def cbLineF : List Instr :=
  [.SET_6_B, .SET_6_C, .SET_6_D, .SET_6_E,
   .SET_6_H, .SET_6_L, .SET_6__HL, .SET_6_A,
   .SET_7_B, .SET_7_C, .SET_7_D, .SET_7_E,
   .SET_7_H, .SET_7_L, .SET_7__HL, .SET_7_A]

/-- The primary opcode map (R212). -/
def primaryMap : List (Byte → Byte → Instr) :=
  primaryLine0 ++ primaryLine1 ++ primaryLine2 ++ primaryLine3 ++
  primaryLine4 ++ primaryLine5 ++ primaryLine6 ++ primaryLine7 ++
  primaryLine8 ++ primaryLine9 ++ primaryLineA ++ primaryLineB ++
  primaryLineC ++ primaryLineD ++ primaryLineE ++ primaryLineF

/-- The CB opcode map (R213). -/
def cbMap : List Instr :=
  cbLine0 ++ cbLine1 ++ cbLine2 ++ cbLine3 ++
  cbLine4 ++ cbLine5 ++ cbLine6 ++ cbLine7 ++
  cbLine8 ++ cbLine9 ++ cbLineA ++ cbLineB ++
  cbLineC ++ cbLineD ++ cbLineE ++ cbLineF

/-- The primary instruction with opcode `op` and following bytes `n1`, `n2` (R212). -/
def primaryInstr (op n1 n2 : Byte) : Instr := (primaryMap.getD op.toNat fun _ _ => .NOP) n1 n2

/-- The CB instruction `c` (R213). -/
def cbInstr (c : Byte) : Instr := cbMap.getD c.toNat .RLC_B

/-- How many bytes an instruction has, from its first byte alone (R200). -/
def opcodeLength (op : Byte) : Nat := (primaryInstr op 0 0).length

/-- Reads one instruction at the head of a byte list (R210): the instruction and the bytes after it. -/
def decode : List Byte → Except DecodeError (Instr × List Byte)
  | [] => .error .truncated
  | op :: rest =>
    if op = 0xCB then
      match rest with
      | [] => .error .truncated
      | c :: after => .ok (cbInstr c, after)
    else if op = 0x10 then
      match rest with
      | [] => .error .truncated
      | b :: after => if b = 0 then .ok (.STOP b, after) else .error (.stopSecondByte b)
    else
      match opcodeLength op, rest with
      | 1, after => .ok (primaryInstr op 0 0, after)
      | 2, n :: after => .ok (primaryInstr op n 0, after)
      | 3, n1 :: n2 :: after => .ok (primaryInstr op n1 n2, after)
      | _, _ => .error .truncated

/-- The low byte of a 16-bit immediate, which the encoding puts first (R211). -/
def immLow (v : Word) : Byte := v.extractLsb' 0 8

/-- The high byte of a 16-bit immediate (R211). -/
def immHigh (v : Word) : Byte := v.extractLsb' 8 8

/-- The bytes of an instruction, first byte first (R200, R211; files 40 to 46). -/
def encode : Instr → List Byte
  | .NOP => [0x00]
  | .LD_BC_d16 d => [0x01, immLow d, immHigh d]
  | .LD__BC__A => [0x02]
  | .INC_BC => [0x03]
  | .INC_B => [0x04]
  | .DEC_B => [0x05]
  | .LD_B_d8 d => [0x06, d]
  | .RLCA => [0x07]
  | .LD__a16__SP a => [0x08, immLow a, immHigh a]
  | .ADD_HL_BC => [0x09]
  | .LD_A__BC => [0x0A]
  | .DEC_BC => [0x0B]
  | .INC_C => [0x0C]
  | .DEC_C => [0x0D]
  | .LD_C_d8 d => [0x0E, d]
  | .RRCA => [0x0F]
  | .LD_DE_d16 d => [0x11, immLow d, immHigh d]
  | .LD__DE__A => [0x12]
  | .INC_DE => [0x13]
  | .INC_D => [0x14]
  | .DEC_D => [0x15]
  | .LD_D_d8 d => [0x16, d]
  | .RLA => [0x17]
  | .JR_e8 e => [0x18, e]
  | .ADD_HL_DE => [0x19]
  | .LD_A__DE => [0x1A]
  | .DEC_DE => [0x1B]
  | .INC_E => [0x1C]
  | .DEC_E => [0x1D]
  | .LD_E_d8 d => [0x1E, d]
  | .RRA => [0x1F]
  | .JR_NZ_e8 e => [0x20, e]
  | .LD_HL_d16 d => [0x21, immLow d, immHigh d]
  | .LD__HLinc__A => [0x22]
  | .INC_HL => [0x23]
  | .INC_H => [0x24]
  | .DEC_H => [0x25]
  | .LD_H_d8 d => [0x26, d]
  | .DAA => [0x27]
  | .JR_Z_e8 e => [0x28, e]
  | .ADD_HL_HL => [0x29]
  | .LD_A__HLinc => [0x2A]
  | .DEC_HL => [0x2B]
  | .INC_L => [0x2C]
  | .DEC_L => [0x2D]
  | .LD_L_d8 d => [0x2E, d]
  | .CPL => [0x2F]
  | .JR_NC_e8 e => [0x30, e]
  | .LD_SP_d16 d => [0x31, immLow d, immHigh d]
  | .LD__HLdec__A => [0x32]
  | .INC_SP => [0x33]
  | .INC__HL => [0x34]
  | .DEC__HL => [0x35]
  | .LD__HL__d8 d => [0x36, d]
  | .SCF => [0x37]
  | .JR_C_e8 e => [0x38, e]
  | .ADD_HL_SP => [0x39]
  | .LD_A__HLdec => [0x3A]
  | .DEC_SP => [0x3B]
  | .INC_A => [0x3C]
  | .DEC_A => [0x3D]
  | .LD_A_d8 d => [0x3E, d]
  | .CCF => [0x3F]
  | .LD_B_B => [0x40]
  | .LD_B_C => [0x41]
  | .LD_B_D => [0x42]
  | .LD_B_E => [0x43]
  | .LD_B_H => [0x44]
  | .LD_B_L => [0x45]
  | .LD_B__HL => [0x46]
  | .LD_B_A => [0x47]
  | .LD_C_B => [0x48]
  | .LD_C_C => [0x49]
  | .LD_C_D => [0x4A]
  | .LD_C_E => [0x4B]
  | .LD_C_H => [0x4C]
  | .LD_C_L => [0x4D]
  | .LD_C__HL => [0x4E]
  | .LD_C_A => [0x4F]
  | .LD_D_B => [0x50]
  | .LD_D_C => [0x51]
  | .LD_D_D => [0x52]
  | .LD_D_E => [0x53]
  | .LD_D_H => [0x54]
  | .LD_D_L => [0x55]
  | .LD_D__HL => [0x56]
  | .LD_D_A => [0x57]
  | .LD_E_B => [0x58]
  | .LD_E_C => [0x59]
  | .LD_E_D => [0x5A]
  | .LD_E_E => [0x5B]
  | .LD_E_H => [0x5C]
  | .LD_E_L => [0x5D]
  | .LD_E__HL => [0x5E]
  | .LD_E_A => [0x5F]
  | .LD_H_B => [0x60]
  | .LD_H_C => [0x61]
  | .LD_H_D => [0x62]
  | .LD_H_E => [0x63]
  | .LD_H_H => [0x64]
  | .LD_H_L => [0x65]
  | .LD_H__HL => [0x66]
  | .LD_H_A => [0x67]
  | .LD_L_B => [0x68]
  | .LD_L_C => [0x69]
  | .LD_L_D => [0x6A]
  | .LD_L_E => [0x6B]
  | .LD_L_H => [0x6C]
  | .LD_L_L => [0x6D]
  | .LD_L__HL => [0x6E]
  | .LD_L_A => [0x6F]
  | .LD__HL__B => [0x70]
  | .LD__HL__C => [0x71]
  | .LD__HL__D => [0x72]
  | .LD__HL__E => [0x73]
  | .LD__HL__H => [0x74]
  | .LD__HL__L => [0x75]
  | .HALT => [0x76]
  | .LD__HL__A => [0x77]
  | .LD_A_B => [0x78]
  | .LD_A_C => [0x79]
  | .LD_A_D => [0x7A]
  | .LD_A_E => [0x7B]
  | .LD_A_H => [0x7C]
  | .LD_A_L => [0x7D]
  | .LD_A__HL => [0x7E]
  | .LD_A_A => [0x7F]
  | .ADD_A_B => [0x80]
  | .ADD_A_C => [0x81]
  | .ADD_A_D => [0x82]
  | .ADD_A_E => [0x83]
  | .ADD_A_H => [0x84]
  | .ADD_A_L => [0x85]
  | .ADD_A__HL => [0x86]
  | .ADD_A_A => [0x87]
  | .ADC_A_B => [0x88]
  | .ADC_A_C => [0x89]
  | .ADC_A_D => [0x8A]
  | .ADC_A_E => [0x8B]
  | .ADC_A_H => [0x8C]
  | .ADC_A_L => [0x8D]
  | .ADC_A__HL => [0x8E]
  | .ADC_A_A => [0x8F]
  | .SUB_B => [0x90]
  | .SUB_C => [0x91]
  | .SUB_D => [0x92]
  | .SUB_E => [0x93]
  | .SUB_H => [0x94]
  | .SUB_L => [0x95]
  | .SUB__HL => [0x96]
  | .SUB_A => [0x97]
  | .SBC_A_B => [0x98]
  | .SBC_A_C => [0x99]
  | .SBC_A_D => [0x9A]
  | .SBC_A_E => [0x9B]
  | .SBC_A_H => [0x9C]
  | .SBC_A_L => [0x9D]
  | .SBC_A__HL => [0x9E]
  | .SBC_A_A => [0x9F]
  | .AND_B => [0xA0]
  | .AND_C => [0xA1]
  | .AND_D => [0xA2]
  | .AND_E => [0xA3]
  | .AND_H => [0xA4]
  | .AND_L => [0xA5]
  | .AND__HL => [0xA6]
  | .AND_A => [0xA7]
  | .XOR_B => [0xA8]
  | .XOR_C => [0xA9]
  | .XOR_D => [0xAA]
  | .XOR_E => [0xAB]
  | .XOR_H => [0xAC]
  | .XOR_L => [0xAD]
  | .XOR__HL => [0xAE]
  | .XOR_A => [0xAF]
  | .OR_B => [0xB0]
  | .OR_C => [0xB1]
  | .OR_D => [0xB2]
  | .OR_E => [0xB3]
  | .OR_H => [0xB4]
  | .OR_L => [0xB5]
  | .OR__HL => [0xB6]
  | .OR_A => [0xB7]
  | .CP_B => [0xB8]
  | .CP_C => [0xB9]
  | .CP_D => [0xBA]
  | .CP_E => [0xBB]
  | .CP_H => [0xBC]
  | .CP_L => [0xBD]
  | .CP__HL => [0xBE]
  | .CP_A => [0xBF]
  | .RET_NZ => [0xC0]
  | .POP_BC => [0xC1]
  | .JP_NZ_a16 a => [0xC2, immLow a, immHigh a]
  | .JP_a16 a => [0xC3, immLow a, immHigh a]
  | .CALL_NZ_a16 a => [0xC4, immLow a, immHigh a]
  | .PUSH_BC => [0xC5]
  | .ADD_A_d8 d => [0xC6, d]
  | .RST_0x00 => [0xC7]
  | .RET_Z => [0xC8]
  | .RET => [0xC9]
  | .JP_Z_a16 a => [0xCA, immLow a, immHigh a]
  | .PREFIX_CB c => [0xCB, c]
  | .CALL_Z_a16 a => [0xCC, immLow a, immHigh a]
  | .CALL_a16 a => [0xCD, immLow a, immHigh a]
  | .ADC_A_d8 d => [0xCE, d]
  | .RST_0x08 => [0xCF]
  | .RET_NC => [0xD0]
  | .POP_DE => [0xD1]
  | .JP_NC_a16 a => [0xD2, immLow a, immHigh a]
  | .ILLEGAL_0xD3 => [0xD3]
  | .CALL_NC_a16 a => [0xD4, immLow a, immHigh a]
  | .PUSH_DE => [0xD5]
  | .SUB_d8 d => [0xD6, d]
  | .RST_0x10 => [0xD7]
  | .RET_C => [0xD8]
  | .RETI => [0xD9]
  | .JP_C_a16 a => [0xDA, immLow a, immHigh a]
  | .ILLEGAL_0xDB => [0xDB]
  | .CALL_C_a16 a => [0xDC, immLow a, immHigh a]
  | .ILLEGAL_0xDD => [0xDD]
  | .SBC_A_d8 d => [0xDE, d]
  | .RST_0x18 => [0xDF]
  | .LDH__a8__A a => [0xE0, a]
  | .POP_HL => [0xE1]
  | .LD__C__A => [0xE2]
  | .ILLEGAL_0xE3 => [0xE3]
  | .ILLEGAL_0xE4 => [0xE4]
  | .PUSH_HL => [0xE5]
  | .AND_d8 d => [0xE6, d]
  | .RST_0x20 => [0xE7]
  | .ADD_SP_e8 e => [0xE8, e]
  | .JP_HL => [0xE9]
  | .LD__a16__A a => [0xEA, immLow a, immHigh a]
  | .ILLEGAL_0xEB => [0xEB]
  | .ILLEGAL_0xEC => [0xEC]
  | .ILLEGAL_0xED => [0xED]
  | .XOR_d8 d => [0xEE, d]
  | .RST_0x28 => [0xEF]
  | .LDH_A__a8 a => [0xF0, a]
  | .POP_AF => [0xF1]
  | .LD_A__C => [0xF2]
  | .DI => [0xF3]
  | .ILLEGAL_0xF4 => [0xF4]
  | .PUSH_AF => [0xF5]
  | .OR_d8 d => [0xF6, d]
  | .RST_0x30 => [0xF7]
  | .LD_HL_SPplus_e8 e => [0xF8, e]
  | .LD_SP_HL => [0xF9]
  | .LD_A__a16 a => [0xFA, immLow a, immHigh a]
  | .EI => [0xFB]
  | .ILLEGAL_0xFC => [0xFC]
  | .ILLEGAL_0xFD => [0xFD]
  | .CP_d8 d => [0xFE, d]
  | .RST_0x38 => [0xFF]
  | .STOP b => [0x10, b]
  | .RLC_B => [0xCB, 0x00]
  | .RLC_C => [0xCB, 0x01]
  | .RLC_D => [0xCB, 0x02]
  | .RLC_E => [0xCB, 0x03]
  | .RLC_H => [0xCB, 0x04]
  | .RLC_L => [0xCB, 0x05]
  | .RLC__HL => [0xCB, 0x06]
  | .RLC_A => [0xCB, 0x07]
  | .RRC_B => [0xCB, 0x08]
  | .RRC_C => [0xCB, 0x09]
  | .RRC_D => [0xCB, 0x0A]
  | .RRC_E => [0xCB, 0x0B]
  | .RRC_H => [0xCB, 0x0C]
  | .RRC_L => [0xCB, 0x0D]
  | .RRC__HL => [0xCB, 0x0E]
  | .RRC_A => [0xCB, 0x0F]
  | .RL_B => [0xCB, 0x10]
  | .RL_C => [0xCB, 0x11]
  | .RL_D => [0xCB, 0x12]
  | .RL_E => [0xCB, 0x13]
  | .RL_H => [0xCB, 0x14]
  | .RL_L => [0xCB, 0x15]
  | .RL__HL => [0xCB, 0x16]
  | .RL_A => [0xCB, 0x17]
  | .RR_B => [0xCB, 0x18]
  | .RR_C => [0xCB, 0x19]
  | .RR_D => [0xCB, 0x1A]
  | .RR_E => [0xCB, 0x1B]
  | .RR_H => [0xCB, 0x1C]
  | .RR_L => [0xCB, 0x1D]
  | .RR__HL => [0xCB, 0x1E]
  | .RR_A => [0xCB, 0x1F]
  | .SLA_B => [0xCB, 0x20]
  | .SLA_C => [0xCB, 0x21]
  | .SLA_D => [0xCB, 0x22]
  | .SLA_E => [0xCB, 0x23]
  | .SLA_H => [0xCB, 0x24]
  | .SLA_L => [0xCB, 0x25]
  | .SLA__HL => [0xCB, 0x26]
  | .SLA_A => [0xCB, 0x27]
  | .SRA_B => [0xCB, 0x28]
  | .SRA_C => [0xCB, 0x29]
  | .SRA_D => [0xCB, 0x2A]
  | .SRA_E => [0xCB, 0x2B]
  | .SRA_H => [0xCB, 0x2C]
  | .SRA_L => [0xCB, 0x2D]
  | .SRA__HL => [0xCB, 0x2E]
  | .SRA_A => [0xCB, 0x2F]
  | .SWAP_B => [0xCB, 0x30]
  | .SWAP_C => [0xCB, 0x31]
  | .SWAP_D => [0xCB, 0x32]
  | .SWAP_E => [0xCB, 0x33]
  | .SWAP_H => [0xCB, 0x34]
  | .SWAP_L => [0xCB, 0x35]
  | .SWAP__HL => [0xCB, 0x36]
  | .SWAP_A => [0xCB, 0x37]
  | .SRL_B => [0xCB, 0x38]
  | .SRL_C => [0xCB, 0x39]
  | .SRL_D => [0xCB, 0x3A]
  | .SRL_E => [0xCB, 0x3B]
  | .SRL_H => [0xCB, 0x3C]
  | .SRL_L => [0xCB, 0x3D]
  | .SRL__HL => [0xCB, 0x3E]
  | .SRL_A => [0xCB, 0x3F]
  | .BIT_0_B => [0xCB, 0x40]
  | .BIT_0_C => [0xCB, 0x41]
  | .BIT_0_D => [0xCB, 0x42]
  | .BIT_0_E => [0xCB, 0x43]
  | .BIT_0_H => [0xCB, 0x44]
  | .BIT_0_L => [0xCB, 0x45]
  | .BIT_0__HL => [0xCB, 0x46]
  | .BIT_0_A => [0xCB, 0x47]
  | .BIT_1_B => [0xCB, 0x48]
  | .BIT_1_C => [0xCB, 0x49]
  | .BIT_1_D => [0xCB, 0x4A]
  | .BIT_1_E => [0xCB, 0x4B]
  | .BIT_1_H => [0xCB, 0x4C]
  | .BIT_1_L => [0xCB, 0x4D]
  | .BIT_1__HL => [0xCB, 0x4E]
  | .BIT_1_A => [0xCB, 0x4F]
  | .BIT_2_B => [0xCB, 0x50]
  | .BIT_2_C => [0xCB, 0x51]
  | .BIT_2_D => [0xCB, 0x52]
  | .BIT_2_E => [0xCB, 0x53]
  | .BIT_2_H => [0xCB, 0x54]
  | .BIT_2_L => [0xCB, 0x55]
  | .BIT_2__HL => [0xCB, 0x56]
  | .BIT_2_A => [0xCB, 0x57]
  | .BIT_3_B => [0xCB, 0x58]
  | .BIT_3_C => [0xCB, 0x59]
  | .BIT_3_D => [0xCB, 0x5A]
  | .BIT_3_E => [0xCB, 0x5B]
  | .BIT_3_H => [0xCB, 0x5C]
  | .BIT_3_L => [0xCB, 0x5D]
  | .BIT_3__HL => [0xCB, 0x5E]
  | .BIT_3_A => [0xCB, 0x5F]
  | .BIT_4_B => [0xCB, 0x60]
  | .BIT_4_C => [0xCB, 0x61]
  | .BIT_4_D => [0xCB, 0x62]
  | .BIT_4_E => [0xCB, 0x63]
  | .BIT_4_H => [0xCB, 0x64]
  | .BIT_4_L => [0xCB, 0x65]
  | .BIT_4__HL => [0xCB, 0x66]
  | .BIT_4_A => [0xCB, 0x67]
  | .BIT_5_B => [0xCB, 0x68]
  | .BIT_5_C => [0xCB, 0x69]
  | .BIT_5_D => [0xCB, 0x6A]
  | .BIT_5_E => [0xCB, 0x6B]
  | .BIT_5_H => [0xCB, 0x6C]
  | .BIT_5_L => [0xCB, 0x6D]
  | .BIT_5__HL => [0xCB, 0x6E]
  | .BIT_5_A => [0xCB, 0x6F]
  | .BIT_6_B => [0xCB, 0x70]
  | .BIT_6_C => [0xCB, 0x71]
  | .BIT_6_D => [0xCB, 0x72]
  | .BIT_6_E => [0xCB, 0x73]
  | .BIT_6_H => [0xCB, 0x74]
  | .BIT_6_L => [0xCB, 0x75]
  | .BIT_6__HL => [0xCB, 0x76]
  | .BIT_6_A => [0xCB, 0x77]
  | .BIT_7_B => [0xCB, 0x78]
  | .BIT_7_C => [0xCB, 0x79]
  | .BIT_7_D => [0xCB, 0x7A]
  | .BIT_7_E => [0xCB, 0x7B]
  | .BIT_7_H => [0xCB, 0x7C]
  | .BIT_7_L => [0xCB, 0x7D]
  | .BIT_7__HL => [0xCB, 0x7E]
  | .BIT_7_A => [0xCB, 0x7F]
  | .RES_0_B => [0xCB, 0x80]
  | .RES_0_C => [0xCB, 0x81]
  | .RES_0_D => [0xCB, 0x82]
  | .RES_0_E => [0xCB, 0x83]
  | .RES_0_H => [0xCB, 0x84]
  | .RES_0_L => [0xCB, 0x85]
  | .RES_0__HL => [0xCB, 0x86]
  | .RES_0_A => [0xCB, 0x87]
  | .RES_1_B => [0xCB, 0x88]
  | .RES_1_C => [0xCB, 0x89]
  | .RES_1_D => [0xCB, 0x8A]
  | .RES_1_E => [0xCB, 0x8B]
  | .RES_1_H => [0xCB, 0x8C]
  | .RES_1_L => [0xCB, 0x8D]
  | .RES_1__HL => [0xCB, 0x8E]
  | .RES_1_A => [0xCB, 0x8F]
  | .RES_2_B => [0xCB, 0x90]
  | .RES_2_C => [0xCB, 0x91]
  | .RES_2_D => [0xCB, 0x92]
  | .RES_2_E => [0xCB, 0x93]
  | .RES_2_H => [0xCB, 0x94]
  | .RES_2_L => [0xCB, 0x95]
  | .RES_2__HL => [0xCB, 0x96]
  | .RES_2_A => [0xCB, 0x97]
  | .RES_3_B => [0xCB, 0x98]
  | .RES_3_C => [0xCB, 0x99]
  | .RES_3_D => [0xCB, 0x9A]
  | .RES_3_E => [0xCB, 0x9B]
  | .RES_3_H => [0xCB, 0x9C]
  | .RES_3_L => [0xCB, 0x9D]
  | .RES_3__HL => [0xCB, 0x9E]
  | .RES_3_A => [0xCB, 0x9F]
  | .RES_4_B => [0xCB, 0xA0]
  | .RES_4_C => [0xCB, 0xA1]
  | .RES_4_D => [0xCB, 0xA2]
  | .RES_4_E => [0xCB, 0xA3]
  | .RES_4_H => [0xCB, 0xA4]
  | .RES_4_L => [0xCB, 0xA5]
  | .RES_4__HL => [0xCB, 0xA6]
  | .RES_4_A => [0xCB, 0xA7]
  | .RES_5_B => [0xCB, 0xA8]
  | .RES_5_C => [0xCB, 0xA9]
  | .RES_5_D => [0xCB, 0xAA]
  | .RES_5_E => [0xCB, 0xAB]
  | .RES_5_H => [0xCB, 0xAC]
  | .RES_5_L => [0xCB, 0xAD]
  | .RES_5__HL => [0xCB, 0xAE]
  | .RES_5_A => [0xCB, 0xAF]
  | .RES_6_B => [0xCB, 0xB0]
  | .RES_6_C => [0xCB, 0xB1]
  | .RES_6_D => [0xCB, 0xB2]
  | .RES_6_E => [0xCB, 0xB3]
  | .RES_6_H => [0xCB, 0xB4]
  | .RES_6_L => [0xCB, 0xB5]
  | .RES_6__HL => [0xCB, 0xB6]
  | .RES_6_A => [0xCB, 0xB7]
  | .RES_7_B => [0xCB, 0xB8]
  | .RES_7_C => [0xCB, 0xB9]
  | .RES_7_D => [0xCB, 0xBA]
  | .RES_7_E => [0xCB, 0xBB]
  | .RES_7_H => [0xCB, 0xBC]
  | .RES_7_L => [0xCB, 0xBD]
  | .RES_7__HL => [0xCB, 0xBE]
  | .RES_7_A => [0xCB, 0xBF]
  | .SET_0_B => [0xCB, 0xC0]
  | .SET_0_C => [0xCB, 0xC1]
  | .SET_0_D => [0xCB, 0xC2]
  | .SET_0_E => [0xCB, 0xC3]
  | .SET_0_H => [0xCB, 0xC4]
  | .SET_0_L => [0xCB, 0xC5]
  | .SET_0__HL => [0xCB, 0xC6]
  | .SET_0_A => [0xCB, 0xC7]
  | .SET_1_B => [0xCB, 0xC8]
  | .SET_1_C => [0xCB, 0xC9]
  | .SET_1_D => [0xCB, 0xCA]
  | .SET_1_E => [0xCB, 0xCB]
  | .SET_1_H => [0xCB, 0xCC]
  | .SET_1_L => [0xCB, 0xCD]
  | .SET_1__HL => [0xCB, 0xCE]
  | .SET_1_A => [0xCB, 0xCF]
  | .SET_2_B => [0xCB, 0xD0]
  | .SET_2_C => [0xCB, 0xD1]
  | .SET_2_D => [0xCB, 0xD2]
  | .SET_2_E => [0xCB, 0xD3]
  | .SET_2_H => [0xCB, 0xD4]
  | .SET_2_L => [0xCB, 0xD5]
  | .SET_2__HL => [0xCB, 0xD6]
  | .SET_2_A => [0xCB, 0xD7]
  | .SET_3_B => [0xCB, 0xD8]
  | .SET_3_C => [0xCB, 0xD9]
  | .SET_3_D => [0xCB, 0xDA]
  | .SET_3_E => [0xCB, 0xDB]
  | .SET_3_H => [0xCB, 0xDC]
  | .SET_3_L => [0xCB, 0xDD]
  | .SET_3__HL => [0xCB, 0xDE]
  | .SET_3_A => [0xCB, 0xDF]
  | .SET_4_B => [0xCB, 0xE0]
  | .SET_4_C => [0xCB, 0xE1]
  | .SET_4_D => [0xCB, 0xE2]
  | .SET_4_E => [0xCB, 0xE3]
  | .SET_4_H => [0xCB, 0xE4]
  | .SET_4_L => [0xCB, 0xE5]
  | .SET_4__HL => [0xCB, 0xE6]
  | .SET_4_A => [0xCB, 0xE7]
  | .SET_5_B => [0xCB, 0xE8]
  | .SET_5_C => [0xCB, 0xE9]
  | .SET_5_D => [0xCB, 0xEA]
  | .SET_5_E => [0xCB, 0xEB]
  | .SET_5_H => [0xCB, 0xEC]
  | .SET_5_L => [0xCB, 0xED]
  | .SET_5__HL => [0xCB, 0xEE]
  | .SET_5_A => [0xCB, 0xEF]
  | .SET_6_B => [0xCB, 0xF0]
  | .SET_6_C => [0xCB, 0xF1]
  | .SET_6_D => [0xCB, 0xF2]
  | .SET_6_E => [0xCB, 0xF3]
  | .SET_6_H => [0xCB, 0xF4]
  | .SET_6_L => [0xCB, 0xF5]
  | .SET_6__HL => [0xCB, 0xF6]
  | .SET_6_A => [0xCB, 0xF7]
  | .SET_7_B => [0xCB, 0xF8]
  | .SET_7_C => [0xCB, 0xF9]
  | .SET_7_D => [0xCB, 0xFA]
  | .SET_7_E => [0xCB, 0xFB]
  | .SET_7_H => [0xCB, 0xFC]
  | .SET_7_L => [0xCB, 0xFD]
  | .SET_7__HL => [0xCB, 0xFE]
  | .SET_7_A => [0xCB, 0xFF]

/-- The bytes, first byte first, of the first `nbits` bits of an instruction numbered as spec/opcode_table.json
numbers them, with zeros after them up to the longest instruction. Its two-byte rows (the CB rows and STOP) hold the
first byte, 0xCB or 0x10, in bits 15..8 (`match` 0xCBxx, 0x1000); a 16-bit value with that byte in bits 7..0 is read
the other way round (log entry 3). -/
def tableBytes (nbits w : Nat) : List Byte :=
  let low := BitVec.ofNat 8 w
  let high := BitVec.ofNat 8 (w / 256)
  if nbits ≤ 8 then [low, 0, 0]
  else if nbits ≤ 16 then
    if high = 0xCB then [high, low, 0]
    else if low = 0xCB then [low, high, 0]
    else if high = 0x10 then [high, low, 0]
    else [low, high, 0]
  else [low, high, BitVec.ofNat 8 (w / 65536)]

/-- The instruction the decoder reads from a word of spec/opcode_table.json. -/
def decodeTableWord (nbits w : Nat) : Option Instr :=
  match decode (tableBytes nbits w) with
  | .ok (i, _) => some i
  | .error _ => none

/-- The code of an 8-bit operand (R202). -/
def R8.code : R8 → Byte
  | .b => 0
  | .c => 1
  | .d => 2
  | .e => 3
  | .h => 4
  | .l => 5
  | .hlMem => 6
  | .a => 7

/-- The code of a 16-bit operand (R203). -/
def R16.code : R16 → Byte
  | .bc => 0
  | .de => 1
  | .hl => 2
  | .sp => 3

/-- The code of a stack pair (R204). -/
def R16Stk.code : R16Stk → Byte
  | .bc => 0
  | .de => 1
  | .hl => 2
  | .af => 3

/-- The code of an indirect pair (R205). -/
def R16Mem.code : R16Mem → Byte
  | .bc => 0
  | .de => 1
  | .hlInc => 2
  | .hlDec => 3

/-- The code of a condition (R206). -/
def Cond.code : Cond → Byte
  | .nz => 0
  | .z => 1
  | .nc => 2
  | .c => 3

/-- The code of an ALU operation (R207). -/
def AluOp.code : AluOp → Byte
  | .add => 0
  | .adc => 1
  | .sub => 2
  | .sbc => 3
  | .and => 4
  | .xor => 5
  | .or => 6
  | .cp => 7

/-- The code of a CB shift (R208). -/
def ShiftOp.code : ShiftOp → Byte
  | .rlc => 0
  | .rrc => 1
  | .rl => 2
  | .rr => 3
  | .sla => 4
  | .sra => 5
  | .swap => 6
  | .srl => 7

/-- The byte with fields `x`, `y`, `z` (R201). -/
def fieldByte (x y z : Byte) : Byte := 64 * x + 8 * y + z

/-- The operand form that the fields of R201 give a CB opcode, by R202 and R208: written from the field rules,
apart from the map above. -/
def cbFields (c : Byte) : Form :=
  let r : R8 := [R8.b, .c, .d, .e, .h, .l, .hlMem, .a].getD (c.extractLsb' 0 3).toNat .b
  let y := c.extractLsb' 3 3
  match (c.extractLsb' 6 2).toNat with
  | 0 => .shift ([ShiftOp.rlc, .rrc, .rl, .rr, .sla, .sra, .swap, .srl].getD y.toNat .rlc) r
  | 1 => .bit y r
  | 2 => .res y r
  | _ => .set y r

end Sys2Proof
end

