-- ==== Sys2Proof/Machine/Bits.lean ====
section
/-! DEFINITION. Bit fields, extensions and byte order (spec/00_scope.md R13, spec/10_state.md R31). -/

namespace Sys2Proof.Machine

/-- The high byte of a 16-bit value. -/
def hiByte (v : Word) : Byte := v.extractLsb' 8 8

/-- The low byte of a 16-bit value. -/
def loByte (v : Word) : Byte := v.extractLsb' 0 8

/-- `hi ++ lo` (R13). -/
def pairOf (hi lo : Byte) : Word := hi ++ lo

/-- `sext_16` (R13): bit 7 copied into bits 15..8. -/
def sext16 (v : Byte) : Word := v.signExtend 16

/-- `zext_16` (R13). -/
def zext16 (v : Byte) : Word := v.zeroExtend 16

/-- The address `0xFF00 + zext_16(n)` of the high page (30_encoding.md R211). -/
def highPage (n : Byte) : Word := 0xFF00#16 + zext16 n

/-- The field of `v` from bit `lo`, `n` bits wide, as a number (R13). -/
def field {w : Nat} (v : BitVec w) (lo n : Nat) : Nat := (v.extractLsb' lo n).toNat

/-- `v` with bit `n` set. -/
def setBitOf (v : Byte) (n : Nat) : Byte := v ||| BitVec.ofNat 8 (2 ^ n)

/-- `v` with bit `n` cleared. -/
def clearBitOf (v : Byte) (n : Nat) : Byte := v &&& ~~~(BitVec.ofNat 8 (2 ^ n))

/-- `bool(b)` placed at bit `n` of a byte (R13). -/
def bitAt (b : Bool) (n : Nat) : Byte := if b then BitVec.ofNat 8 (2 ^ n) else 0

/-- `while cond: body`, run at most `fuel` times; callers give fuel enough for the condition to fail. -/
def loopWhile {α : Type} (cond : α → Bool) (body : α → α) : Nat → α → α
  | 0, a => a
  | n + 1, a => if cond a then loopWhile cond body n (body a) else a

end Sys2Proof.Machine
end

