-- ==== Sys2Proof/Config.lean ====
section
/-! DEFINITION. What is fixed for a run (spec/00_scope.md R8, R9, R11) and the open parameters of R12. An open
parameter is an `opaque` constant: nothing in Lean knows its value, so whatever is proved holds for every
value of it. -/

namespace Sys2Proof

/-- `MODEL` (R3, R8). `sgb` is named so that it can be refused: R3 does not admit it. -/
inductive Model where
  | dmg
  | cgb
  | sgb
deriving DecidableEq, Repr, Inhabited

/-- The bank-switching family of a cartridge (R9). -/
inductive MbcKind where
  | none
  | mbc1
  | mbc2
  | mbc3
  | mbc5
  | mmm01
deriving DecidableEq, Repr, Inhabited

/-- `CART` (R9) less its contents: `rom` is State's ROM memory, and `ram_init` is an argument of `State.init`.
`mmm01Mapped` says whether the launch supplies `MMM01_MAP` (20_memory.md R150). -/
structure Cart where
  mbc : MbcKind
  romBanks : Nat
  ramBanks : Nat
  hasRtc : Bool
  hasRumble : Bool
  mmm01Mapped : Bool
deriving DecidableEq, Repr, Inhabited

/-- Why a configuration is refused (60_exceptions.md R520, row `Configuration`). -/
inductive ConfigError where
  | superConsole
  | cartridgeType (code : Byte)
  | romSizeCode (code : Byte)
  | ramSizeCode (code : Byte)
  | romBanksBelowTwo
deriving DecidableEq, Repr

/-- The cartridge-type table (93_implementation_defined.md GK20): family, clock, rumble motor. -/
def Cart.kindOfCode (code : Byte) : Option (MbcKind × Bool × Bool) :=
  match code.toNat with
  | 0x00 | 0x08 | 0x09 => some (.none, false, false)
  | 0x01 | 0x02 | 0x03 => some (.mbc1, false, false)
  | 0x05 | 0x06 => some (.mbc2, false, false)
  | 0x0B | 0x0C | 0x0D => some (.mmm01, false, false)
  | 0x0F | 0x10 => some (.mbc3, true, false)
  | 0x11 | 0x12 | 0x13 => some (.mbc3, false, false)
  | 0x19 | 0x1A | 0x1B => some (.mbc5, false, false)
  | 0x1C | 0x1D | 0x1E => some (.mbc5, false, true)
  | _ => Option.none

/-- The ROM-size decode (R9): 0..6 give `2^(N+1)` banks of 16 KiB, and three codes name 72, 80 and 96. -/
def Cart.romBanksOfCode (code : Byte) : Option Nat :=
  match code.toNat with
  | 0x52 => some 72
  | 0x53 => some 80
  | 0x54 => some 96
  | n => if n ≤ 6 then some (2 ^ (n + 1)) else Option.none

/-- The external-RAM-size decode (R9): 0, 1, 1, 4, 16 banks of 8 KiB. -/
def Cart.ramBanksOfCode (code : Byte) : Option Nat :=
  match code.toNat with
  | 0 => some 0
  | 1 | 2 => some 1
  | 3 => some 4
  | 4 => some 16
  | _ => Option.none

/-- The cartridge parameter from the three header bytes (R9), refused outside the decodes (D18). Which reason is given
when several bytes are wrong is the model's choice: the cartridge type, then the ROM size, then the RAM size (log
entry 16). -/
def Cart.ofHeader (typeCode romCode ramCode : Byte) : Except ConfigError Cart :=
  match kindOfCode typeCode, romBanksOfCode romCode, ramBanksOfCode ramCode with
  | some (kind, rtc, rumble), some rom, some ram =>
    .ok { mbc := kind, romBanks := rom, ramBanks := ram, hasRtc := rtc, hasRumble := rumble, mmm01Mapped := false }
  | Option.none, _, _ => .error (.cartridgeType typeCode)
  | some _, Option.none, _ => .error (.romSizeCode romCode)
  | some _, some _, Option.none => .error (.ramSizeCode ramCode)

/-- `CPU_CLOCK_HZ` (R11). -/
def cpuClockHz : Nat := 4194304

/-- Stereo frames per second of machine time (63_sound.md R701). -/
def sampleHz : Nat := 44100

/-- The five registers of the MBC3 clock, select values 0x08 to 0x0C in this order (20_memory.md R142). -/
inductive RtcReg where
  | seconds
  | minutes
  | hours
  | dayLow
  | dayHigh
deriving DecidableEq, Repr, Inhabited

/-- The five bytes that `RTC_SOURCE.sample()` returns (20_memory.md R142). -/
structure RtcBytes where
  seconds : Byte
  minutes : Byte
  hours : Byte
  dayLow : Byte
  dayHigh : Byte
deriving DecidableEq, Repr, Inhabited

/-- What `RTC_SOURCE` is asked (20_memory.md R141, R142): a sample, or to take a value for a register. -/
inductive ClockRequest where
  | sample
  | set (reg : RtcReg) (value : Byte)
deriving DecidableEq, Repr

/-- The eight keys, in the bit order of `keys` (60_exceptions.md R530). -/
inductive Key where
  | right
  | left
  | up
  | down
  | a
  | b
  | select
  | start
deriving DecidableEq, Repr, Inhabited

/-- One host event: a key and whether it is now pressed (60_exceptions.md R532). -/
structure KeyEvent where
  key : Key
  pressed : Bool
deriving DecidableEq, Repr, Inhabited

/-- Where draws of an open parameter come from: the open parameter itself, or a list of answers placed in the
state, which is one way the draws may fall out (log entry 6). -/
inductive Source (α : Type) where
  | free
  | scripted (answers : List α)
deriving DecidableEq, Repr

/-- The mapping an MMM01 cartridge has after its ROM-region writes (20_memory.md R150). -/
structure Mmm01Mapping where
  lowBank : Nat
  highBank : Nat
  ramEnable : Bool
  ramBank : Nat
deriving DecidableEq, Repr, Inhabited

/-- The two sides of a stereo frame (63_sound.md R740). -/
inductive Side where
  | left
  | right
deriving DecidableEq, Repr, Inhabited

/-- The arguments of `SOUND_OUT` at one sample (63_sound.md R740, R745): the four levels, the two master volumes of
NR50 (its bits 7 and 3 have no effect) and the routing byte NR51. -/
structure SoundInput where
  level1 : BitVec 4
  level2 : BitVec 4
  level3 : BitVec 4
  level4 : BitVec 4
  leftVolume : BitVec 3
  rightVolume : BitVec 3
  routing : Byte
deriving DecidableEq, Repr, Inhabited

/-- The state `σ` of the output filters (63_sound.md R700, R745), as what determines it from its initial value: the
arguments `SOUND_OUT` has had, newest first (log entry 8). -/
abbrev FilterState := List SoundInput

/-- The word of each shade of `DMG_SHADES` (62_ppu.md R640) before its law, that shade 0 is the brightest, is imposed;
`Machine.dmgShades` imposes it. Free value. -/
opaque Config.shadeWord : BitVec 2 → BitVec 32

/-- What blue (0), green (1) and red (2) weigh in the brightness of a colour, each less 1 (log entry 9): R640 gives no
measure of brightness. Free value. -/
opaque Config.brightnessWeight : Fin 3 → Nat

/-- `RTC_SOURCE.sample()` after the requests it has had, set requests among them, newest first (20_memory.md R141, R142;
log entry 6). Free value. -/
opaque Config.rtcSample : List ClockRequest → RtcBytes

/-- `SERIAL_PEER` at a step of a transfer, after the SB and SC it was handed at each such step, newest first and this
one included: the byte received, if the transfer completes there (60_exceptions.md R535, R540; log entry 23). Free
value. -/
opaque Config.serialPeer : List (Byte × Byte) → Option Byte

/-- `HOST_EVENTS` at the n-th drain point (60_exceptions.md R532). Free value. -/
opaque Config.hostEvents : Nat → List KeyEvent

/-- `MMM01_MAP` (20_memory.md R150): the mapping after the given ROM-region writes, oldest first. Free value. -/
opaque Config.mmm01Map : List (Word × Byte) → Mmm01Mapping

/-- `SOUND_OUT`, the high-pass smoothing of the noise channel for one side: its value now from its levels so far, each
with whether it was routed to that side, newest first (63_sound.md R745). Free value. -/
opaque Config.noiseHighPass : Side → List (BitVec 4 × Bool) → ℝ

/-- `SOUND_OUT`, the scaled sum of one side: from the levels of channels 1 to 3 and the smoothed noise (`none` for a
channel whose NR51 bit is clear there) and that side's master volume (63_sound.md R745, law 2). Free value. -/
opaque Config.scaledSum : Side → List (Option (BitVec 4)) → Option ℝ → BitVec 3 → ℝ

/-- `SOUND_OUT`, the low-pass of one side: its value now from that side's sums so far, newest first (63_sound.md
R745). Free value. -/
opaque Config.lowPass : Side → List ℝ → ℝ

end Sys2Proof
end

