-- ==== Sys2Proof/Machine/State.lean ====
section
/-! DEFINITION. The machine's state (spec/10_state.md), the ways a run can stop (spec/60_exceptions.md R520) and
the state after reset (spec/70_reset_and_hazards.md R800). Everything is plain data. The fields of `HostIo`, `cost`
and `extra` are the model's own (log entries 5, 6 and 7). -/

namespace Sys2Proof.Machine

/-- A memory: address and byte pairs, addresses strictly rising, no entry equal to what an unlisted address reads
as (`Memory.wf`). The addresses are offsets into the physical memory, bank by bank. -/
abbrev Memory := List Host.Cell

/-- What an unlisted address of every memory reads as (log entry 2). -/
def blankByte : Byte := 0

/-- The two deferred effects (R39). -/
inductive Effect where
  | setIME
  | clearIME
deriving DecidableEq, Repr

/-- An entry of the `pending` queue (R39): an effect and the steps it still waits. -/
structure Deferred where
  effect : Effect
  remaining : Nat
deriving DecidableEq, Repr

/-- The CPU's registers and control state (R30 to R40). -/
structure Cpu where
  a : Byte
  f : Byte
  b : Byte
  c : Byte
  d : Byte
  e : Byte
  h : Byte
  l : Byte
  sp : Word
  pc : Word
  ime : Bool
  halted : Bool
  pending : List Deferred
  doubleSpeed : Bool
  key1Armed : Bool
deriving DecidableEq, Repr

/-- The interrupt controller's two bytes, IF and IE (60_exceptions.md R500). -/
structure Irq where
  ifByte : Byte
  ieByte : Byte
deriving DecidableEq, Repr

/-- The memories of R42. A bank `n` of size `k` stands at offsets `n * k` to `n * k + k - 1`. `io` holds the stored
bytes of the unimplemented I/O addresses (R52) and, on DMG, of the registers marked CGB (R51), by low address byte. -/
structure Mems where
  rom : Memory
  vram : Memory
  eram : Memory
  mbc2ram : Memory
  wram : Memory
  oam : Memory
  hram : Memory
  io : Memory
deriving DecidableEq, Repr

/-- The bank-controller state (R43). `ramBank` and `rtcSelect` are `none` for the spec's `NONE`; `mmm01Writes` are
the ROM-region writes an MMM01 cartridge has seen, which `MMM01_MAP` maps (20_memory.md R150). -/
structure Mbc where
  romBank : BitVec 9
  ramBank : Option (BitVec 4)
  ramEnable : Bool
  mbc1Low5 : BitVec 5
  mbc1Upper : BitVec 2
  mbc1Mode : Bool
  rtcSelect : Option RtcReg
  rtcLatched : RtcBytes
  rtcLatchLast : Bool
  rumble : Bool
  wramBank : BitVec 3
  vramBank : Bool
  mmm01Writes : List (Word × Byte)
deriving DecidableEq, Repr

/-- The CGB transfer engine (R47) with the stored bytes of HDMA1 to HDMA4 (R51). -/
structure Hdma where
  reg1 : Byte
  reg2 : Byte
  reg3 : Byte
  reg4 : Byte
  src : Word
  dst : Word
  left : Nat
  hblank : Bool
  stall : Nat
deriving DecidableEq, Repr

/-- The timer and divider (R44, 61_timer.md R550). -/
structure Timer where
  divCounter : BitVec 16
  timaAcc : Nat
  tima : Byte
  tma : Byte
  tac : Byte
deriving DecidableEq, Repr

/-- The PPU modes (62_ppu.md R602), in the order of their two-bit codes 0 to 3. -/
inductive PpuMode where
  | hblank
  | vblank
  | oamScan
  | transfer
deriving DecidableEq, Repr

/-- A framebuffer pixel. Its ARGB8888 word (R42) is `Pixel.argb`; a DMG pixel keeps its shade number, because the
words of the four shades are the open parameter `DMG_SHADES` (log entry 9). -/
inductive Pixel where
  | shade (n : BitVec 2)
  | colour (argb : BitVec 32)
deriving DecidableEq, Repr

/-- An index register of palette RAM (62_ppu.md R642): auto-increment bit and byte index. -/
structure PaletteIndex where
  auto : Bool
  index : BitVec 6
deriving DecidableEq, Repr

/-- The PPU (R45, 62_ppu.md R600). `statEnable` is STAT bits 6..3; `dma` is the stored byte of the DMA register. -/
structure Ppu where
  ly : Nat
  mode : PpuMode
  lineDot : Nat
  lycEqual : Bool
  lcdc : Byte
  statEnable : BitVec 4
  scy : Byte
  scx : Byte
  lyc : Byte
  dma : Byte
  bgp : Byte
  obp0 : Byte
  obp1 : Byte
  wy : Byte
  wx : Byte
  bcps : PaletteIndex
  ocps : PaletteIndex
  bgPalette : Memory
  objPalette : Memory
  frame : List (List Pixel)
deriving DecidableEq, Repr

/-- An envelope (63_sound.md R700): volume, direction, period, seconds since the last envelope step. -/
structure Envelope where
  vol : BitVec 4
  up : Bool
  period : BitVec 3
  t : Rat
deriving DecidableEq, Repr

/-- A tone channel, 1 or 2 (63_sound.md R700). Times are in seconds. -/
structure Tone where
  nrx1 : Byte
  nrx2 : Byte
  nrx3 : Byte
  nrx4 : Byte
  on : Bool
  lenLeft : Rat
  env : Envelope
  freq : BitVec 11
  phase : Rat
deriving DecidableEq, Repr

/-- The wave channel (63_sound.md R700). -/
structure Wave where
  nr30 : Byte
  nr31 : Byte
  nr32 : Byte
  nr33 : Byte
  nr34 : Byte
  on : Bool
  lenLeft : Rat
  freq : BitVec 11
  table : List (BitVec 4)
  index : BitVec 5
  volCode : BitVec 2
  t : Rat
deriving DecidableEq, Repr

/-- The noise channel (63_sound.md R700). -/
structure Noise where
  nr41 : Byte
  nr42 : Byte
  nr43 : Byte
  nr44 : Byte
  on : Bool
  lenLeft : Rat
  env : Envelope
  lfsr : BitVec 15
  t : Rat
deriving DecidableEq, Repr

/-- The sound unit (R46, 63_sound.md R700). `nr10` and `sweepT` belong to channel 1. -/
structure Sound where
  power : Bool
  nr10 : Byte
  sweepT : Rat
  ch1 : Tone
  ch2 : Tone
  ch3 : Wave
  ch4 : Noise
  nr50 : Byte
  nr51 : Byte
  sampleAcc : Nat
  filter : FilterState
  waveRam : Memory
deriving DecidableEq, Repr

/-- The keypad (R48): `keys` and the select bits P1[5:4]. -/
structure Keypad where
  keys : Byte
  select : BitVec 2
deriving DecidableEq, Repr

/-- The serial port (R48, 60_exceptions.md R535). -/
structure Serial where
  sb : Byte
  sc : Byte
  busy : Bool
deriving DecidableEq, Repr

/-- What the machine hands to the host (60_exceptions.md R540). A stereo frame is a pair of reals, `stereoFrame` of the
arguments `SOUND_OUT` has had, newest first, which is what the message holds (log entry 8). `serial` is the byte of
SB that a completed transfer has given to the peer (log entry 23). -/
inductive HostMessage where
  | frame (pixels : List (List Pixel))
  | audio (samples : FilterState)
  | serial (sb : Byte)
  | rtcSet (reg : RtcReg) (value : Byte)
  | rumble (on : Bool)
deriving DecidableEq, Repr

/-- The model's own record of the host's side (60_exceptions.md R540): the messages sent, and for each open input what
its draws depend on (log entries 5 and 6): how many drains there were, what the serial peer was shown, and what the
clock was asked. Lists are newest first. -/
structure HostIo where
  sent : List HostMessage
  events : Source (List KeyEvent)
  drains : Nat
  peer : Source (Option Byte)
  peerShown : List (Byte × Byte)
  clock : Source RtcBytes
  clockRequests : List ClockRequest
deriving DecidableEq, Repr

/-- What a stopped run records in `fault` (R41, 60_exceptions.md R520). -/
inductive StopKind where
  | illegalOpcode (op : Byte)
  | stopNotArmed
  | unimplementedIOWrite (addr : Word)
  | mmm01 (addr : Word)
  | configuration (e : ConfigError)
deriving DecidableEq, Repr

/-- The machine. `model` and `cart` are the parameters of R8 and R9, fixed for a run. `cost` is what the running
instruction has set by `cost <- n` (R14) and `extra` the `extra` of 60_exceptions.md R510. -/
structure State where
  model : Model
  cart : Cart
  cpu : Cpu
  irq : Irq
  mem : Mems
  mbc : Mbc
  hdma : Hdma
  timer : Timer
  ppu : Ppu
  sound : Sound
  keypad : Keypad
  serial : Serial
  host : HostIo
  cost : Nat
  extra : Nat
  fault : Option StopKind
deriving DecidableEq, Repr

/-- The faults of R520. Each carries the recorded info and the state at the raise (the register dump, with the
effects done so far). Raising one is safe: the spec itself ends the run there. -/
inductive Fault where
  /-- Raised by the eleven illegal opcodes and by 0x10 followed by a byte other than 0x00 (R214, R215, R426). Safe. -/
  | illegalOpcode (op : Byte) (dump : State)
  /-- Raised by `STOP` on DMG, or on CGB when not armed (R423). Safe. -/
  | stopNotArmed (dump : State)
  /-- Raised by a write to an unimplemented I/O address (R52, R104). Safe. -/
  | unimplementedIOWrite (addr : Word) (dump : State)
deriving DecidableEq, Repr

/-- The refusals. All are safe: the model stops where the spec refuses the run (R520). -/
inductive Refusal where
  /-- An instruction that has no meaning yet: `exec`'s refused arms only. Safe. -/
  | notModelled (mnemonic : String)
  /-- A ROM read or ROM-region write on an MMM01 cartridge without `MMM01_MAP` (R150). Safe. -/
  | mmm01 (addr : Word) (dump : State)
  /-- The super-console model, or a cartridge outside R9 (R3, R520): raised by `step` before it runs. Safe. -/
  | configuration (e : ConfigError) (dump : State)
deriving DecidableEq, Repr

/-- The outcome of an operation of the machine. -/
abbrev Out (α : Type) := Host.Outcome α Fault Refusal

/-- Goes on with the result of an operation, or stops as it stopped. -/
def andThen {α β : Type} (o : Out α) (f : α → Out β) : Out β :=
  match o with
  | .next a => f a
  | .fault r => .fault r
  | .refused r => .refused r

/-- A framebuffer of 144 lines of 160 pixels of the brightest shade (62_ppu.md R608). -/
def brightFrame (m : Model) : List (List Pixel) :=
  List.replicate 144 (List.replicate 160 (match m with
    | .cgb => .colour 0xFFFFFFFF
    | _ => .shade 0))

/-- The envelope of the quiet sound unit (R800). -/
def Envelope.zero : Envelope := { vol := 0, up := false, period := 0, t := 0 }

/-- The CPU after reset (R800): the values of the model's column. -/
def Cpu.init (m : Model) : Cpu :=
  match m with
  | .cgb =>
    { a := 0x11, f := 0x80, b := 0x00, c := 0x00, d := 0xFF, e := 0x56, h := 0x00, l := 0x0D
      sp := 0xFFFE, pc := 0x0100, ime := false, halted := false, pending := []
      doubleSpeed := false, key1Armed := false }
  | _ =>
    { a := 0x01, f := 0xB0, b := 0x00, c := 0x13, d := 0x00, e := 0xD8, h := 0x01, l := 0x4D
      sp := 0xFFFE, pc := 0x0100, ime := false, halted := false, pending := []
      doubleSpeed := false, key1Armed := false }

/-- The stored bytes, on DMG, of the registers marked CGB after reset (R51, reset column; log entry 12). -/
def ioInit (m : Model) : Memory :=
  match m with
  | .cgb => []
  | _ => [(0x4D, 0x7E), (0x4F, 0xFE), (0x55, 0xFF), (0x70, 0xF9)]

/-- The memories after reset (R800): ROM as the cartridge gives it, external RAM and MBC2 RAM as `ram_init` gives
them, the others with nothing listed (log entry 2). -/
def Mems.init (m : Model) (rom ramInit mbc2Init : Memory) : Mems :=
  { rom := rom, vram := [], eram := ramInit, mbc2ram := mbc2Init, wram := [], oam := [], hram := [], io := ioInit m }

/-- The bank controller after reset (R800; `rtc_latched` is U there: log entry 10). External RAM is enabled on a
cartridge without a controller only. -/
def Mbc.init (kind : MbcKind) : Mbc :=
  { romBank := 1, ramBank := some 0, ramEnable := decide (kind = .none), mbc1Low5 := 1, mbc1Upper := 0, mbc1Mode := false
    rtcSelect := none
    rtcLatched := { seconds := 0, minutes := 0, hours := 0, dayLow := 0, dayHigh := 0 }
    rtcLatchLast := false, rumble := false, wramBank := 1, vramBank := false, mmm01Writes := [] }

/-- The transfer engine after reset (R800). -/
def Hdma.init : Hdma :=
  { reg1 := 0xFF, reg2 := 0xFF, reg3 := 0xFF, reg4 := 0xFF, src := 0xFFF0, dst := 0x1FF0, left := 0
    hblank := false, stall := 0 }

/-- The timer after reset (R800; on CGB: log entry 19). -/
def Timer.init : Timer := { divCounter := 0xABCC, timaAcc := 0, tima := 0x00, tma := 0x00, tac := 0xF8 }

/-- The PPU after reset (R800): line 0, mode 2, coincidence 1. OBP0, OBP1, BCPS, OCPS are U there (log entry 10). -/
def Ppu.init (m : Model) : Ppu :=
  { ly := 0, mode := .oamScan, lineDot := 0, lycEqual := true, lcdc := 0x91, statEnable := 0
    scy := 0, scx := 0, lyc := 0, dma := 0xFF, bgp := 0xFC, obp0 := 0, obp1 := 0, wy := 0, wx := 0
    bcps := { auto := false, index := 0 }, ocps := { auto := false, index := 0 }
    bgPalette := [], objPalette := [], frame := brightFrame m }

/-- A tone channel after reset (R800, register bytes by the reset column of R51). -/
def Tone.init (nrx1 nrx2 nrx3 nrx4 : Byte) : Tone :=
  { nrx1 := nrx1, nrx2 := nrx2, nrx3 := nrx3, nrx4 := nrx4, on := false, lenLeft := 0, env := Envelope.zero
    freq := 0, phase := 0 }

/-- The wave channel after reset (R800). -/
def Wave.init : Wave :=
  { nr30 := 0x7F, nr31 := 0xFF, nr32 := 0x9F, nr33 := 0xFF, nr34 := 0xBF, on := false, lenLeft := 0, freq := 0
    table := List.replicate 32 0, index := 0, volCode := 0, t := 0 }

/-- The noise channel after reset (R800). -/
def Noise.init : Noise :=
  { nr41 := 0xFF, nr42 := 0x00, nr43 := 0x00, nr44 := 0xBF, on := false, lenLeft := 0, env := Envelope.zero
    lfsr := 0x7FFF, t := 0 }

/-- The sound unit after reset (R800): the output filters have had no sample yet. -/
def Sound.init : Sound :=
  { power := true, nr10 := 0x80, sweepT := 0, ch1 := Tone.init 0xBF 0xF3 0xFF 0xBF
    ch2 := Tone.init 0x3F 0x00 0xFF 0xBF, ch3 := Wave.init, ch4 := Noise.init, nr50 := 0x77, nr51 := 0xF3
    sampleAcc := 0, filter := [], waveRam := [] }

/-- The host's side before the first step: nothing sent, every input open. -/
def HostIo.init : HostIo :=
  { sent := [], events := .free, drains := 0, peer := .free, peerShown := [], clock := .free, clockRequests := [] }

/-- The default `INIT` (R800) for a model, a cartridge and its contents. -/
def State.init (m : Model) (cart : Cart) (rom ramInit mbc2Init : Memory) : State :=
  { model := m, cart := cart, cpu := Cpu.init m, irq := { ifByte := 0xE1, ieByte := 0x00 }
    mem := Mems.init m rom ramInit mbc2Init, mbc := Mbc.init cart.mbc, hdma := Hdma.init, timer := Timer.init
    ppu := Ppu.init m, sound := Sound.init, keypad := { keys := 0, select := 0 }
    serial := { sb := 0x00, sc := 0x7E, busy := false }, host := HostIo.init
    cost := 0, extra := 0, fault := none }

/-- The cartridge of `State.reset`: no controller, two ROM banks, no RAM (log entry 1). -/
def Cart.plain : Cart :=
  { mbc := .none, romBanks := 2, ramBanks := 0, hasRtc := false, hasRumble := false, mmm01Mapped := false }

/-- The machine right after reset: the default `INIT` of R800 in its DMG column, with a plain cartridge whose
contents are not given (log entry 1). -/
def State.reset : State := State.init .dmg Cart.plain [] [] []

end Sys2Proof.Machine
end

