-- ==== Sys2Proof/Machine/Access.lean ====
section
/-! DEFINITION. Named reads and updates of the registers, flags and control bits (spec/10_state.md R30 to R41), and
the raising of faults and refusals (spec/60_exceptions.md R520). -/

namespace Sys2Proof.Machine

/-- A general register (R30). -/
def State.reg (s : State) : Reg → Byte
  | .a => s.cpu.a
  | .b => s.cpu.b
  | .c => s.cpu.c
  | .d => s.cpu.d
  | .e => s.cpu.e
  | .h => s.cpu.h
  | .l => s.cpu.l

/-- Writes a general register. -/
def State.setReg (s : State) (r : Reg) (v : Byte) : State :=
  { s with cpu := match r with
    | .a => { s.cpu with a := v }
    | .b => { s.cpu with b := v }
    | .c => { s.cpu with c := v }
    | .d => { s.cpu with d := v }
    | .e => { s.cpu with e := v }
    | .h => { s.cpu with h := v }
    | .l => { s.cpu with l := v } }

/-- `BC = B ++ C` (R30). -/
def State.bc (s : State) : Word := pairOf s.cpu.b s.cpu.c

/-- `DE = D ++ E` (R30). -/
def State.de (s : State) : Word := pairOf s.cpu.d s.cpu.e

/-- `HL = H ++ L` (R30). -/
def State.hl (s : State) : Word := pairOf s.cpu.h s.cpu.l

/-- `AF = A ++ F` (R30). -/
def State.af (s : State) : Word := pairOf s.cpu.a s.cpu.f

/-- A 16-bit operand (30_encoding.md R203). -/
def State.r16 (s : State) : R16 → Word
  | .bc => s.bc
  | .de => s.de
  | .hl => s.hl
  | .sp => s.cpu.sp

/-- Writes a 16-bit operand: a pair takes its high byte in the first-named register (R14, R30). -/
def State.setR16 (s : State) (r : R16) (v : Word) : State :=
  { s with cpu := match r with
    | .bc => { s.cpu with b := hiByte v, c := loByte v }
    | .de => { s.cpu with d := hiByte v, e := loByte v }
    | .hl => { s.cpu with h := hiByte v, l := loByte v }
    | .sp => { s.cpu with sp := v } }

/-- A stack pair (30_encoding.md R204). -/
def State.r16stk (s : State) : R16Stk → Word
  | .bc => s.bc
  | .de => s.de
  | .hl => s.hl
  | .af => s.af

/-- Writes a stack pair; F takes only the high nibble of its byte (R36, 41_loads16.md R327). -/
def State.setR16stk (s : State) (r : R16Stk) (v : Word) : State :=
  { s with cpu := match r with
    | .bc => { s.cpu with b := hiByte v, c := loByte v }
    | .de => { s.cpu with d := hiByte v, e := loByte v }
    | .hl => { s.cpu with h := hiByte v, l := loByte v }
    | .af => { s.cpu with a := hiByte v, f := loByte v &&& 0xF0 } }

/-- `zf`, F[7] (R35). -/
def State.zf (s : State) : Bool := s.cpu.f.getLsbD 7

/-- `nf`, F[6] (R35). -/
def State.nf (s : State) : Bool := s.cpu.f.getLsbD 6

/-- `hf`, F[5] (R35). -/
def State.hf (s : State) : Bool := s.cpu.f.getLsbD 5

/-- `cf`, F[4] (R35). -/
def State.cf (s : State) : Bool := s.cpu.f.getLsbD 4

/-- The byte F with these four flags; its low nibble is 0 (R35, R36). -/
def flagByte (z n h c : Bool) : Byte := bitAt z 7 ||| bitAt n 6 ||| bitAt h 5 ||| bitAt c 4

/-- Writes all four flags. -/
def State.setFlags (s : State) (z n h c : Bool) : State := { s with cpu := { s.cpu with f := flagByte z n h c } }

/-- Writes PC. -/
def State.setPc (s : State) (v : Word) : State := { s with cpu := { s.cpu with pc := v } }

/-- Writes SP. -/
def State.setSp (s : State) (v : Word) : State := { s with cpu := { s.cpu with sp := v } }

/-- Writes IME (R37). -/
def State.setIme (s : State) (v : Bool) : State := { s with cpu := { s.cpu with ime := v } }

/-- Writes `halted` (R38). -/
def State.setHalted (s : State) (v : Bool) : State := { s with cpu := { s.cpu with halted := v } }

/-- `cost <- n` (R14). -/
def State.setCost (s : State) (n : Nat) : State := { s with cost := n }

/-- Appends `(effect, 2)` to the deferred queue (46_system.md R424, R425). -/
def State.defer (s : State) (e : Effect) : State :=
  { s with cpu := { s.cpu with pending := s.cpu.pending ++ [{ effect := e, remaining := 2 }] } }

/-- `IF[n] <- 1` (60_exceptions.md R500). -/
def State.request (s : State) (n : Nat) : State := { s with irq := { s.irq with ifByte := setBitOf s.irq.ifByte n } }

/-- `req = IF & IE & 0x1F` (60_exceptions.md R500). -/
def State.requested (s : State) : Byte := s.irq.ifByte &&& s.irq.ieByte &&& 0x1F

/-- Sends a message to the host (60_exceptions.md R540). -/
def State.send (s : State) (m : HostMessage) : State := { s with host := { s.host with sent := m :: s.host.sent } }

/-- Ends the run: the kind is recorded in `fault`, and the outcome carries the state at the raise (R41, R520). -/
def stopWith {α : Type} (k : StopKind) (s : State) : Out α :=
  let dump := { s with fault := some k }
  match k with
  | .illegalOpcode op => .fault (.illegalOpcode op dump)
  | .stopNotArmed => .fault (.stopNotArmed dump)
  | .unimplementedIOWrite addr => .fault (.unimplementedIOWrite addr dump)
  | .mmm01 addr => .refused (.mmm01 addr dump)
  | .configuration e => .refused (.configuration e dump)

end Sys2Proof.Machine
end

