-- ==== Sys2Proof/Machine/Route.lean ====
section
/-! DEFINITION. The memory map (spec/20_memory.md R100 to R117), the banks each controller maps (R120 to R150), the
reads of the I/O registers (spec/10_state.md R51, R52), and so `MemRead`. -/

namespace Sys2Proof.Machine

/-- The I/O registers of R51, in address order. -/
inductive IoReg where
  | p1 | sb | sc | div | tima | tma | tac | ifReg
  | nr10 | nr11 | nr12 | nr13 | nr14 | nr21 | nr22 | nr23 | nr24
  | nr30 | nr31 | nr32 | nr33 | nr34 | nr41 | nr42 | nr43 | nr44 | nr50 | nr51 | nr52
  | lcdc | stat | scy | scx | ly | lyc | dma | bgp | obp0 | obp1 | wy | wx
  | key1 | vbk | hdma1 | hdma2 | hdma3 | hdma4 | hdma5 | bcps | bcpd | ocps | ocpd | svbk
deriving DecidableEq, Repr

/-- The low address bytes of the registers (R51): keypad, serial, timer, IF. -/
def ioTableSystem : List (Nat × IoReg) :=
  [(0x00, .p1), (0x01, .sb), (0x02, .sc), (0x04, .div), (0x05, .tima), (0x06, .tma), (0x07, .tac), (0x0F, .ifReg)]

/-- The tone channels (R51). -/
def ioTableTone : List (Nat × IoReg) :=
  [(0x10, .nr10), (0x11, .nr11), (0x12, .nr12), (0x13, .nr13), (0x14, .nr14), (0x16, .nr21), (0x17, .nr22),
   (0x18, .nr23), (0x19, .nr24)]

/-- The wave and noise channels and the mixer (R51). -/
def ioTableWave : List (Nat × IoReg) :=
  [(0x1A, .nr30), (0x1B, .nr31), (0x1C, .nr32), (0x1D, .nr33), (0x1E, .nr34), (0x20, .nr41), (0x21, .nr42),
   (0x22, .nr43), (0x23, .nr44), (0x24, .nr50), (0x25, .nr51), (0x26, .nr52)]

/-- The PPU and OAM DMA (R51). -/
def ioTablePpu : List (Nat × IoReg) :=
  [(0x40, .lcdc), (0x41, .stat), (0x42, .scy), (0x43, .scx), (0x44, .ly), (0x45, .lyc), (0x46, .dma), (0x47, .bgp),
   (0x48, .obp0), (0x49, .obp1), (0x4A, .wy), (0x4B, .wx)]

/-- The registers marked CGB (R51). -/
def ioTableCgb : List (Nat × IoReg) :=
  [(0x4D, .key1), (0x4F, .vbk), (0x51, .hdma1), (0x52, .hdma2), (0x53, .hdma3), (0x54, .hdma4), (0x55, .hdma5),
   (0x68, .bcps), (0x69, .bcpd), (0x6A, .ocps), (0x6B, .ocpd), (0x70, .svbk)]

/-- The registers of R51 by low address byte. -/
def ioTable : List (Nat × IoReg) := ioTableSystem ++ ioTableTone ++ ioTableWave ++ ioTablePpu ++ ioTableCgb

/-- What an I/O address holds: a register, a byte of wave RAM (0x30 to 0x3F), or nothing (R51, R52). -/
inductive IoSlot where
  | reg (r : IoReg)
  | wave (i : Nat)
  | unimplemented
deriving DecidableEq, Repr

/-- The slot at a low address byte (R51, R52). -/
def ioSlot (a : Byte) : IoSlot :=
  if 0x30 ≤ a.toNat ∧ a.toNat ≤ 0x3F then .wave (a.toNat - 0x30)
  else match ioTable.lookup a.toNat with
    | some r => .reg r
    | none => .unimplemented

/-- `MODEL = CGB` (R8). -/
def State.cgb (s : State) : Bool := s.model == .cgb

/-- The address of a register among the registers marked CGB whose DMG byte stands in `Mems.io` (R51). -/
def IoReg.storedOnDmg : IoReg → Option Nat
  | .key1 => some 0x4D
  | .vbk => some 0x4F
  | .hdma5 => some 0x55
  | .bcps => some 0x68
  | .bcpd => some 0x69
  | .ocps => some 0x6A
  | .ocpd => some 0x6B
  | .svbk => some 0x70
  | _ => none

/-- P1 read (60_exceptions.md R530). -/
def p1Read (k : Keypad) : Byte :=
  let directions : Byte := if k.select.getLsbD 0 then 0 else k.keys &&& 0x0F
  let actions : Byte := if k.select.getLsbD 1 then 0 else k.keys >>> 4
  0xC0 ||| (k.select.zeroExtend 8 <<< 4) ||| (~~~(directions ||| actions) &&& 0x0F)

/-- The two-bit code of a PPU mode (62_ppu.md R602). -/
def PpuMode.code : PpuMode → Byte
  | .hblank => 0
  | .vblank => 1
  | .oamScan => 2
  | .transfer => 3

/-- LCDC bit 7 (62_ppu.md R604). -/
def Ppu.lcdOn (p : Ppu) : Bool := p.lcdc.getLsbD 7

/-- STAT read (62_ppu.md R605). -/
def statRead (p : Ppu) : Byte :=
  0x80 ||| (p.statEnable.zeroExtend 8 <<< 3) ||| bitAt p.lycEqual 2 ||| (if p.lcdOn then p.mode.code else 0)

/-- NR52 read (63_sound.md R741). -/
def nr52Read (u : Sound) : Byte :=
  bitAt u.power 7 ||| 0x70 ||| bitAt u.ch4.on 3 ||| bitAt u.ch3.on 2 ||| bitAt u.ch2.on 1 ||| bitAt u.ch1.on 0

/-- HDMA5 read (R161). -/
def hdma5Read (d : Hdma) : Byte :=
  if d.hblank then BitVec.ofNat 8 (d.left - 1) &&& 0x7F
  else if d.left = 0 then 0xFF
  else 0x80 ||| (BitVec.ofNat 8 (d.left - 1) &&& 0x7F)

/-- BCPS or OCPS read (62_ppu.md R642). -/
def paletteIndexRead (i : PaletteIndex) : Byte := bitAt i.auto 7 ||| 0x40 ||| i.index.zeroExtend 8

/-- A sound register byte as the CPU reads it: the stored byte, 0 while the unit is off (R51, 63_sound.md R705). -/
def soundByte (u : Sound) (v : Byte) : Byte := if u.power then v else 0

/-- The read of a register (R51), on the model whose column it is. -/
def ioRegRead (s : State) : IoReg → Byte
  | .p1 => p1Read s.keypad
  | .sb => s.serial.sb
  | .sc => s.serial.sc
  | .div => s.timer.divCounter.extractLsb' 8 8
  | .tima => s.timer.tima
  | .tma => s.timer.tma
  | .tac => s.timer.tac
  | .ifReg => s.irq.ifByte
  | .nr10 => soundByte s.sound s.sound.nr10
  | .nr11 => soundByte s.sound s.sound.ch1.nrx1
  | .nr12 => soundByte s.sound s.sound.ch1.nrx2
  | .nr13 => soundByte s.sound s.sound.ch1.nrx3
  | .nr14 => soundByte s.sound s.sound.ch1.nrx4
  | .nr21 => soundByte s.sound s.sound.ch2.nrx1
  | .nr22 => soundByte s.sound s.sound.ch2.nrx2
  | .nr23 => soundByte s.sound s.sound.ch2.nrx3
  | .nr24 => soundByte s.sound s.sound.ch2.nrx4
  | .nr30 => soundByte s.sound s.sound.ch3.nr30
  | .nr31 => soundByte s.sound s.sound.ch3.nr31
  | .nr32 => soundByte s.sound s.sound.ch3.nr32
  | .nr33 => soundByte s.sound s.sound.ch3.nr33
  | .nr34 => soundByte s.sound s.sound.ch3.nr34
  | .nr41 => soundByte s.sound s.sound.ch4.nr41
  | .nr42 => soundByte s.sound s.sound.ch4.nr42
  | .nr43 => soundByte s.sound s.sound.ch4.nr43
  | .nr44 => soundByte s.sound s.sound.ch4.nr44
  | .nr50 => soundByte s.sound s.sound.nr50
  | .nr51 => soundByte s.sound s.sound.nr51
  | .nr52 => nr52Read s.sound
  | .lcdc => s.ppu.lcdc
  | .stat => statRead s.ppu
  | .scy => s.ppu.scy
  | .scx => s.ppu.scx
  | .ly => BitVec.ofNat 8 s.ppu.ly
  | .lyc => s.ppu.lyc
  | .dma => s.ppu.dma
  | .bgp => s.ppu.bgp
  | .obp0 => s.ppu.obp0
  | .obp1 => s.ppu.obp1
  | .wy => s.ppu.wy
  | .wx => s.ppu.wx
  | .key1 => bitAt s.cpu.doubleSpeed 7 ||| 0x7E ||| bitAt s.cpu.key1Armed 0
  | .vbk => 0xFE ||| bitAt s.mbc.vramBank 0
  | .hdma1 => s.hdma.reg1
  | .hdma2 => s.hdma.reg2
  | .hdma3 => s.hdma.reg3
  | .hdma4 => s.hdma.reg4
  | .hdma5 => hdma5Read s.hdma
  | .bcps => paletteIndexRead s.ppu.bcps
  | .bcpd => s.ppu.bgPalette.read s.ppu.bcps.index.toNat
  | .ocps => paletteIndexRead s.ppu.ocps
  | .ocpd => s.ppu.objPalette.read s.ppu.ocps.index.toNat
  | .svbk => 0xF8 ||| s.mbc.wramBank.zeroExtend 8

/-- `IORead` (R51, R52): on DMG a register marked CGB reads as stored, and an unimplemented address reads its
stored byte. Nothing changes (R53). -/
def ioRead (s : State) (a : Byte) : Byte :=
  match ioSlot a with
  | .wave i => s.sound.waveRam.read i
  | .unimplemented => s.mem.io.read a.toNat
  | .reg r =>
    match r.storedOnDmg with
    | some k => if s.cgb then ioRegRead s r else s.mem.io.read k
    | none => ioRegRead s r

/-- `vram_bank_eff` (R102; log entry 17). -/
def vramBankEff (s : State) : Nat := if s.cgb ∧ s.mbc.vramBank then 1 else 0

/-- `wram_bank_eff` (R102). -/
def wramBankEff (s : State) : Nat := if s.cgb then s.mbc.wramBank.toNat else 1

/-- The mapping of an MMM01 cartridge (R150; log entry 14). -/
def mmm01Mapping (s : State) : Mmm01Mapping := Config.mmm01Map s.mbc.mmm01Writes

/-- `rom_bank_eff` (R121, R126, R130, R140, R146, R150), modulo the number of banks (R120). -/
def romBankEff (s : State) : Nat :=
  (match s.cart.mbc with
    | .none => 1
    | .mbc1 => (if s.mbc.mbc1Mode then 0 else s.mbc.mbc1Upper.toNat * 32) + s.mbc.mbc1Low5.toNat
    | .mbc2 => s.mbc.romBank.toNat
    | .mbc3 => s.mbc.romBank.toNat
    | .mbc5 => if s.mbc.romBank = 0 then 1 else s.mbc.romBank.toNat
    | .mmm01 => (mmm01Mapping s).highBank) % s.cart.romBanks

/-- The bank at 0x0000..0x3FFF: bank 0 (R120), but for MMM01's mapping (R150). -/
def romLowBankEff (s : State) : Nat :=
  match s.cart.mbc with
  | .mmm01 => (mmm01Mapping s).lowBank % s.cart.romBanks
  | _ => 0

/-- The physical place of an address. -/
inductive Loc where
  | rom (i : Nat)
  | vram (i : Nat)
  | eram (i : Nat)
  | mbc2ram (i : Nat)
  | rtc (r : RtcReg)
  | openBus
  | wram (i : Nat)
  | oam (i : Nat)
  | io (a : Byte)
  | hram (i : Nat)
  | ie
deriving DecidableEq, Repr

/-- `ram_enable` as the controller has it: constant 1 without one (R121), MMM01's by its mapping (R150). -/
def ramEnabled (s : State) : Bool :=
  match s.cart.mbc with
  | .none => true
  | .mmm01 => if s.cart.mmm01Mapped then (mmm01Mapping s).ramEnable else s.mbc.ramEnable
  | _ => s.mbc.ramEnable

/-- `ram_bank` as the controller has it: 0 without one (R121), MBC1's by its mode (R126), MMM01's by its mapping. -/
def ramBankEff (s : State) : Option Nat :=
  match s.cart.mbc with
  | .none => some 0
  | .mbc1 => some (if s.mbc.mbc1Mode then s.mbc.mbc1Upper.toNat else 0)
  | .mmm01 => if s.cart.mmm01Mapped then some (mmm01Mapping s).ramBank else s.mbc.ramBank.map BitVec.toNat
  | _ => s.mbc.ramBank.map BitVec.toNat

/-- Where 0xA000 + `off` lies: plain external RAM (R117). -/
def eramLoc (s : State) (off : Nat) : Loc :=
  match ramBankEff s with
  | none => .openBus
  | some b => if s.cart.ramBanks = 0 then .openBus else .eram (b % s.cart.ramBanks * 0x2000 + off)

/-- Where 0xA000 + `off` lies (R117, R131, R141). -/
def extLoc (s : State) (off : Nat) : Loc :=
  if ramEnabled s = false then .openBus
  else match s.cart.mbc with
    | .mbc2 => .mbc2ram (off % 512)
    | .mbc3 => match s.mbc.rtcSelect with
      | some r => .rtc r
      | none => eramLoc s off
    | _ => eramLoc s off

/-- Where an address of 0xC000..0xDFFF lies (R112). -/
def wramLoc (s : State) (a : Nat) : Loc :=
  if a ≤ 0xCFFF then .wram (a - 0xC000) else .wram (wramBankEff s * 0x1000 + (a - 0xD000))

/-- Where an address lies (R101, R103). The mirror and the unusable region are the address 0x2000 lower (R113,
R115). -/
def locOf (s : State) (addr : Word) : Loc :=
  let a := addr.toNat
  if a ≤ 0x3FFF then .rom (romLowBankEff s * 0x4000 + a)
  else if a ≤ 0x7FFF then .rom (romBankEff s * 0x4000 + (a - 0x4000))
  else if a ≤ 0x9FFF then .vram (vramBankEff s * 0x2000 + (a - 0x8000))
  else if a ≤ 0xBFFF then extLoc s (a - 0xA000)
  else if a ≤ 0xDFFF then wramLoc s a
  else if a ≤ 0xFDFF then wramLoc s (a - 0x2000)
  else if a ≤ 0xFE9F then .oam (a - 0xFE00)
  else if a ≤ 0xFEFF then wramLoc s (a - 0x2000)
  else if a ≤ 0xFF7F then .io (loByte addr)
  else if a ≤ 0xFFFE then .hram (a - 0xFF80)
  else .ie

/-- One byte of the latched clock (R141). -/
def rtcByte (b : RtcBytes) : RtcReg → Byte
  | .seconds => b.seconds
  | .minutes => b.minutes
  | .hours => b.hours
  | .dayLow => b.dayLow
  | .dayHigh => b.dayHigh

/-- The byte at a physical place. Open bus reads 0xFF (R117), an MBC2 cell has its upper nibble 1 (R131). -/
def locRead (s : State) : Loc → Byte
  | .rom i => s.mem.rom.read i
  | .vram i => s.mem.vram.read i
  | .eram i => s.mem.eram.read i
  | .mbc2ram i => 0xF0 ||| s.mem.mbc2ram.read i
  | .rtc r => rtcByte s.mbc.rtcLatched r
  | .openBus => 0xFF
  | .wram i => s.mem.wram.read i
  | .oam i => s.mem.oam.read i
  | .io a => ioRead s a
  | .hram i => s.mem.hram.read i
  | .ie => s.irq.ieByte

/-- The byte an address reads as (R103), where the read is not refused. -/
def readByte (s : State) (addr : Word) : Byte := locRead s (locOf s addr)

/-- The accesses that an MMM01 cartridge without `MMM01_MAP` refuses: those to the ROM region (R150). -/
def romRefused (s : State) (addr : Word) : Bool :=
  s.cart.mbc == .mmm01 && !s.cart.mmm01Mapped && decide (addr.toNat ≤ 0x7FFF)

/-- `MemRead(addr, 1)` (R103). -/
def memRead (s : State) (addr : Word) : Out Byte :=
  if romRefused s addr then stopWith (.mmm01 addr) s else .next (readByte s addr)

end Sys2Proof.Machine
end

