-- ==== Sys2Proof/Machine/Hdma.lean ====
section
/-! DEFINITION. OAM DMA (spec/20_memory.md R155, R156) and the CGB transfer engine (R160 to R165). -/

namespace Sys2Proof.Machine

/-- The rest of an OAM DMA: `n` bytes from `src`, to OAM from index `i` on (R155). -/
def oamCopy (src : Word) : Nat → Nat → State → Out State
  | 0, _, s => .next s
  | n + 1, i, s =>
    andThen (memRead s (src + BitVec.ofNat 16 i)) fun v =>
      oamCopy src n (i + 1) { s with mem := { s.mem with oam := s.mem.oam.write i v } }

/-- A write of `v` to DMA (R155): the byte is stored, then 160 bytes are copied. -/
def oamDma (v : Byte) (s : State) : Out State :=
  oamCopy (pairOf v 0) 160 0 { s with ppu := { s.ppu with dma := v } }

/-- The rest of one block: `n` bytes from index `j` on (R163). -/
def hdmaBytes : Nat → Nat → State → Out State
  | 0, _, s => .next s
  | n + 1, j, s =>
    andThen (memRead s (s.hdma.src + BitVec.ofNat 16 j)) fun v =>
      hdmaBytes n (j + 1) { s with mem := { s.mem with
        vram := s.mem.vram.write (vramBankEff s * 0x2000 + (s.hdma.dst.toNat + j) % 0x2000) v } }

/-- `HdmaBlock()` (R163). -/
def hdmaBlock (s : State) : Out State :=
  andThen (hdmaBytes 16 0 s) fun t =>
    .next { t with hdma := { t.hdma with src := t.hdma.src + 16, dst := (t.hdma.dst + 16) &&& 0x1FFF } }

/-- `block_cost` in CPU ticks (R165). -/
def blockCost (s : State) : Nat := if s.cpu.doubleSpeed then 64 else 32

/-- `n` blocks one after another (R162). -/
def hdmaBlocks : Nat → State → Out State
  | 0, s => .next s
  | n + 1, s => andThen (hdmaBlock s) (hdmaBlocks n)

/-- A write of `v` to HDMA5 on CGB (R162). -/
def hdma5Write (v : Byte) (s : State) : Out State :=
  if s.hdma.hblank ∧ v.getLsbD 7 = false then .next { s with hdma := { s.hdma with hblank := false } }
  else if v.getLsbD 7 = false then
    let n := field v 0 7 + 1
    andThen (hdmaBlocks n s) fun t =>
      .next { t with hdma := { t.hdma with left := 0 }, extra := t.extra + n * blockCost t }
  else .next { s with hdma := { s.hdma with hblank := true, left := field v 0 7 + 1 } }

/-- The H-blank block at a mode 0 entry, if a transfer is active (R164). -/
def hblankBlock (s : State) : Out State :=
  if s.hdma.hblank then
    andThen (hdmaBlock s) fun t =>
      .next { t with hdma := { t.hdma with
        left := t.hdma.left - 1
        stall := t.hdma.stall + blockCost t
        hblank := decide (t.hdma.left - 1 ≠ 0) } }
  else .next s

/-- `hdma_src` and `hdma_dst` from the four bytes (R160). -/
def hdmaLatch (d : Hdma) : Hdma :=
  { d with src := pairOf d.reg1 d.reg2 &&& 0xFFF0, dst := pairOf (d.reg3 &&& 0x1F) d.reg4 &&& 0x1FF0 }

end Sys2Proof.Machine
end

