-- ==== Sys2Proof/Machine/HostInput.lean ====
section
/-! DEFINITION. The open inputs (spec/60_exceptions.md R531, R532, R535; spec/20_memory.md R142): each is a draw,
taken from the open parameter for the history that State holds, or from answers placed in State (log entry 6). -/

namespace Sys2Proof.Machine

/-- The next answer of a source: the open one (`free`), or the next placed one, and `silent` when they run out. -/
def Source.answer {α : Type} (src : Source α) (free silent : α) : α :=
  match src with
  | .free => free
  | .scripted [] => silent
  | .scripted (x :: _) => x

/-- The source after one draw. -/
def Source.rest {α : Type} (src : Source α) : Source α :=
  match src with
  | .free => .free
  | .scripted xs => .scripted xs.tail

/-- The bit of a key in `keys` (R530). -/
def keyBit : Key → Nat
  | .right => 0
  | .left => 1
  | .up => 2
  | .down => 3
  | .a => 4
  | .b => 5
  | .select => 6
  | .start => 7

/-- Applies one event to `keys`, and collects the keys whose bit went from 0 to 1 (R531, R532). -/
def applyKeyEvent (acc : Byte × Byte) (e : KeyEvent) : Byte × Byte :=
  let n := keyBit e.key
  if e.pressed then
    (setBitOf acc.1 n, if acc.1.getLsbD n then acc.2 else setBitOf acc.2 n)
  else (clearBitOf acc.1 n, acc.2)

/-- A drain point (R531, R532): the events are applied in order, and interrupt 4 is requested if some key was
pressed by them and is pressed at the end (log entry 22). -/
def drainEvents (s : State) : State :=
  let events := Source.answer s.host.events (Config.hostEvents s.host.drains) []
  let res := events.foldl applyKeyEvent (s.keypad.keys, 0)
  { s with
    keypad := { s.keypad with keys := res.1 }
    irq := { s.irq with ifByte := if res.2 &&& res.1 = 0 then s.irq.ifByte else setBitOf s.irq.ifByte 4 }
    host := { s.host with events := Source.rest s.host.events, drains := s.host.drains + 1 } }

/-- `RTC_SOURCE` gets a request, which its later samples may depend on (R141, R142). -/
def State.askClock (s : State) (r : ClockRequest) : State :=
  { s with host := { s.host with clockRequests := r :: s.host.clockRequests } }

/-- What `RTC_SOURCE.sample()` gives in a state (R142). -/
def clockSample (s : State) : RtcBytes :=
  Source.answer s.host.clock (Config.rtcSample s.host.clockRequests)
    { seconds := 0, minutes := 0, hours := 0, dayLow := 0, dayHigh := 0 }

/-- `rtc_latched <- RTC_SOURCE.sample()` (R142). -/
def latchClock (s : State) : State :=
  { s with
    mbc := { s.mbc with rtcLatched := clockSample s }
    host := { s.host with clock := Source.rest s.host.clock } }.askClock .sample

/-- The end of a transfer (R535): the peer gets the byte of SB (R540; log entry 23) and `b` comes in its place, the
transfer bit is cleared, and interrupt 3 is requested. -/
def endTransfer (b : Byte) (s : State) : State :=
  ({ s with serial := { sb := b, sc := clearBitOf s.serial.sc 7, busy := false } }.send (.serial s.serial.sb)).request 3

/-- What the serial peer has been shown once it is shown SB and SC in a state (R535; log entry 23). -/
def shownToPeer (s : State) : List (Byte × Byte) := (s.serial.sb, s.serial.sc) :: s.host.peerShown

/-- The draw of `SERIAL_PEER` in a state (R535). -/
def peerAnswer (s : State) : Option Byte := Source.answer s.host.peer (Config.serialPeer (shownToPeer s)) none

/-- `SerialTick()` (R535): while a transfer runs, whether it completes in this step is a draw; the peer is shown SB
and SC. -/
def serialTick (s : State) : State :=
  if s.serial.busy then
    let s1 := { s with host := { s.host with peer := Source.rest s.host.peer, peerShown := shownToPeer s } }
    match peerAnswer s with
    | none => s1
    | some b => endTransfer b s1
  else s

end Sys2Proof.Machine
end

