-- ==== Sys2Proof/Machine/Mbc.lean ====
section
/-! DEFINITION. `MbcWrite`: writes to the ROM region (spec/20_memory.md R120 to R150), and `ExtWrite`'s write to a
mapped clock register (R141). -/

namespace Sys2Proof.Machine

/-- The RAM-enable gate "the low nibble == 0xA" (R120). -/
def ramGate (v : Byte) : Bool := v &&& 0x0F == 0x0A

/-- Replaces the controller state. -/
def State.setMbc (s : State) (m : Mbc) : State := { s with mbc := m }

/-- MBC1 (R122 to R125). -/
def mbc1Write (a : Nat) (v : Byte) (m : Mbc) : Mbc :=
  if a ≤ 0x1FFF then { m with ramEnable := ramGate v }
  else if a ≤ 0x3FFF then
    { m with mbc1Low5 := if v.extractLsb' 0 5 = 0 then 1 else v.extractLsb' 0 5 }
  else if a ≤ 0x5FFF then { m with mbc1Upper := v.extractLsb' 0 2 }
  else { m with mbc1Mode := v.getLsbD 0 }

/-- MBC2 (R130): bit 8 of the address selects the register. -/
def mbc2Write (a : Nat) (v : Byte) (m : Mbc) : Mbc :=
  if a ≤ 0x3FFF then
    if a / 256 % 2 = 0 then { m with ramEnable := ramGate v }
    else { m with romBank := if v.extractLsb' 0 4 = 0 then 1 else (v.extractLsb' 0 4).zeroExtend 9 }
  else m

/-- The clock register a value of MBC3's bank register selects (R141). -/
def rtcSelected (v : Byte) : Option RtcReg :=
  match v.toNat with
  | 0x08 => some .seconds
  | 0x09 => some .minutes
  | 0x0A => some .hours
  | 0x0B => some .dayLow
  | 0x0C => some .dayHigh
  | _ => none

/-- MBC3's bank and clock select (R141). -/
def mbc3Select (hasRtc : Bool) (v : Byte) (m : Mbc) : Mbc :=
  if v.toNat ≤ 0x03 then { m with ramBank := some (v.extractLsb' 0 4), rtcSelect := none }
  else if hasRtc then { m with ramBank := none, rtcSelect := rtcSelected v }
  else { m with ramBank := none, rtcSelect := none }

/-- MBC3 (R140 to R142). -/
def mbc3Write (a : Nat) (v : Byte) (s : State) : State :=
  let m := s.mbc
  if a ≤ 0x1FFF then s.setMbc { m with ramEnable := ramGate v }
  else if a ≤ 0x3FFF then
    s.setMbc { m with romBank := if v.extractLsb' 0 7 = 0 then 1 else (v.extractLsb' 0 7).zeroExtend 9 }
  else if a ≤ 0x5FFF then s.setMbc (mbc3Select s.cart.hasRtc v m)
  else
    let s1 := if !m.rtcLatchLast && v.getLsbD 0 then latchClock s else s
    s1.setMbc { s1.mbc with rtcLatchLast := v.getLsbD 0 }

/-- MBC5's RAM bank register, with the rumble bit of a cartridge that has the motor (R147). -/
def mbc5Bank (v : Byte) (s : State) : State :=
  if s.cart.hasRumble then
    let s1 := s.setMbc { s.mbc with rumble := v.getLsbD 3, ramBank := some ((v.extractLsb' 0 3).zeroExtend 4) }
    if v.getLsbD 3 = s.mbc.rumble then s1 else s1.send (.rumble (v.getLsbD 3))
  else s.setMbc { s.mbc with ramBank := some (v.extractLsb' 0 4) }

/-- MBC5 (R146, R147). -/
def mbc5Write (a : Nat) (v : Byte) (s : State) : State :=
  let m := s.mbc
  if a ≤ 0x1FFF then s.setMbc { m with ramEnable := ramGate v }
  else if a ≤ 0x2FFF then s.setMbc { m with romBank := m.romBank.extractLsb' 8 1 ++ v }
  else if a ≤ 0x3FFF then s.setMbc { m with romBank := v.extractLsb' 0 1 ++ m.romBank.extractLsb' 0 8 }
  else if a ≤ 0x5FFF then mbc5Bank v s
  else s

/-- `MbcWrite(addr, v)` (R104, R120): ROM itself never changes. -/
def mbcWrite (addr : Word) (v : Byte) (s : State) : State :=
  match s.cart.mbc with
  | .none => s
  | .mbc1 => s.setMbc (mbc1Write addr.toNat v s.mbc)
  | .mbc2 => s.setMbc (mbc2Write addr.toNat v s.mbc)
  | .mbc3 => mbc3Write addr.toNat v s
  | .mbc5 => mbc5Write addr.toNat v s
  | .mmm01 => s.setMbc { s.mbc with mmm01Writes := s.mbc.mmm01Writes ++ [(addr, v)] }

/-- One byte of the latched clock replaced (R141). -/
def setRtcByte (b : RtcBytes) (r : RtcReg) (v : Byte) : RtcBytes :=
  match r with
  | .seconds => { b with seconds := v }
  | .minutes => { b with minutes := v }
  | .hours => { b with hours := v }
  | .dayLow => { b with dayLow := v }
  | .dayHigh => { b with dayHigh := v }

/-- A write to the mapped clock register, passed on to `RTC_SOURCE` as a set request (R141). -/
def rtcWrite (r : RtcReg) (v : Byte) (s : State) : State :=
  ((s.setMbc { s.mbc with rtcLatched := setRtcByte s.mbc.rtcLatched r v }).askClock (.set r v)).send (.rtcSet r v)

end Sys2Proof.Machine
end

