-- ==== Sys2Proof/Machine/Render.lean ====
section
/-! DEFINITION. Rendering one line (spec/62_ppu.md R601, R620 to R626) and the palettes (R640 to R642). -/

namespace Sys2Proof.Machine

/-- A channel of an ARGB8888 word: blue (0), green (1), red (2). -/
def colourChannel (w : BitVec 32) (k : Nat) : Nat := (w.extractLsb' (8 * k) 8).toNat

/-- How bright an ARGB8888 word is: a sum of its channels with positive weights, which are open (R640; log entry 9). -/
def brightness (w : BitVec 32) : Nat :=
  (Config.brightnessWeight 0 + 1) * colourChannel w 0 + (Config.brightnessWeight 1 + 1) * colourChannel w 1 +
    (Config.brightnessWeight 2 + 1) * colourChannel w 2

/-- `DMG_SHADES` (R640): any function from shade numbers to words under which no shade is brighter than shade 0. A word
that would be brighter is replaced by that of shade 0, so a function that has the law is left as it is. -/
def dmgShades (n : BitVec 2) : BitVec 32 :=
  if brightness (Config.shadeWord n) ≤ brightness (Config.shadeWord 0) then Config.shadeWord n else Config.shadeWord 0

/-- The ARGB8888 word of a pixel (R42, R640). -/
def Pixel.argb : Pixel → BitVec 32
  | .shade n => dmgShades n
  | .colour w => w

/-- A VRAM byte of a bank, whatever `vram_bank` selects for the CPU (R622). -/
def vramByte (s : State) (bank off : Nat) : Byte := s.mem.vram.read (bank * 0x2000 + off)

/-- Bit `n` of a byte as a number. -/
def bitNat (v : Byte) (n : Nat) : Nat := if v.getLsbD n then 1 else 0

/-- The two-bit colour index at column `col` of a tile row: low plane first, bit 7 leftmost (R620). -/
def planeIndex (lo hi : Byte) (col : Nat) : Nat := bitNat hi (7 - col) * 2 + bitNat lo (7 - col)

/-- The VRAM offset of a tile's data: unsigned from 0x0000 or signed from 0x1000 (R604, R620). -/
def tileBase (s : State) (idx : Byte) : Nat :=
  if s.ppu.lcdc.getLsbD 4 then idx.toNat * 16 else (0x1000 + idx.toInt * 16).toNat

/-- `TilePixel(map, px, py)` (R620): colour index and attribute byte. -/
def tilePixel (s : State) (map px py : Nat) : Nat × Byte :=
  let m := map + py / 8 * 32 + px / 8
  let idx := vramByte s 0 m
  let attr : Byte := if s.cgb then vramByte s 1 m else 0x00
  let row := if attr.getLsbD 6 then 7 - py % 8 else py % 8
  let col := if attr.getLsbD 5 then 7 - px % 8 else px % 8
  let base := tileBase s idx
  let bank := bitNat attr 3
  (planeIndex (vramByte s bank (base + 2 * row)) (vramByte s bank (base + 2 * row + 1)) col, attr)

/-- Whether the window covers pixel `x` of line `y` (R621). -/
def windowCovers (s : State) (x y : Nat) : Bool :=
  s.ppu.lcdc.getLsbD 5 && decide (s.ppu.wy.toNat ≤ y) && decide (7 ≤ s.ppu.wx.toNat) &&
    decide (s.ppu.wx.toNat ≤ 166) && decide (s.ppu.wx.toNat - 7 ≤ x) && (s.cgb || s.ppu.lcdc.getLsbD 0)

/-- The background or window pixel (R620, R621). -/
def backgroundPixel (s : State) (x y : Nat) : Nat × Byte :=
  if windowCovers s x y then
    tilePixel s (if s.ppu.lcdc.getLsbD 6 then 0x1C00 else 0x1800) (x - (s.ppu.wx.toNat - 7)) (y - s.ppu.wy.toNat)
  else
    tilePixel s (if s.ppu.lcdc.getLsbD 3 then 0x1C00 else 0x1800) ((x + s.ppu.scx.toNat) % 256)
      ((y + s.ppu.scy.toNat) % 256)

/-- An OAM entry (R623). -/
structure Sprite where
  oy : Nat
  ox : Nat
  tile : Byte
  attr : Byte
deriving DecidableEq, Repr

/-- OAM entry `i` (R623). -/
def spriteAt (s : State) (i : Nat) : Sprite :=
  { oy := (s.mem.oam.read (4 * i)).toNat, ox := (s.mem.oam.read (4 * i + 1)).toNat
    tile := s.mem.oam.read (4 * i + 2), attr := s.mem.oam.read (4 * i + 3) }

/-- Sprite height (R604, R623). -/
def spriteHeight (s : State) : Nat := if s.ppu.lcdc.getLsbD 2 then 16 else 8

/-- The line's sprites: the first ten OAM entries whose rows include line `y` (R623). -/
def lineSprites (s : State) (y : Nat) : List Sprite :=
  (((List.range 40).map (spriteAt s)).filter fun p =>
    decide (p.oy ≤ y + 16) && decide (y + 16 < p.oy + spriteHeight s)).take 10

/-- The colour index of a sprite at pixel `x` of line `y`, for a sprite on the line that covers `x` (R624). -/
def spriteIndex (s : State) (p : Sprite) (x y : Nat) : Nat :=
  let h := spriteHeight s
  let row0 := y + 16 - p.oy
  let row := if p.attr.getLsbD 6 then h - 1 - row0 else row0
  let col0 := x + 8 - p.ox
  let col := if p.attr.getLsbD 5 then 7 - col0 else col0
  let t := if h = 16 then p.tile &&& 0xFE else p.tile
  let bank := if s.cgb then bitNat p.attr 3 else 0
  planeIndex (vramByte s bank (t.toNat * 16 + 2 * row)) (vramByte s bank (t.toNat * 16 + 2 * row + 1)) col

/-- A sprite's opaque pixel at `x`, if it covers `x` and is opaque there (R624). -/
def opaqueAt (s : State) (x y : Nat) (p : Sprite) : Option (Sprite × Nat) :=
  if p.ox ≤ x + 8 ∧ x < p.ox then
    let sci := spriteIndex s p x y
    if sci = 0 then none else some (p, sci)
  else none

/-- Keeps the sprite already chosen unless the next, later in OAM, has a lower X (R625, CGB order). -/
def lowerX (best : Option (Sprite × Nat)) (p : Sprite × Nat) : Option (Sprite × Nat) :=
  match best with
  | none => some p
  | some q => if p.1.ox < q.1.ox then some p else some q

/-- The sprite drawn at `x` (R625): DMG by lower OAM index, CGB by lower X and then lower OAM index. -/
def winningSprite (s : State) (sprites : List Sprite) (x y : Nat) : Option (Sprite × Nat) :=
  let shown := sprites.filterMap (opaqueAt s x y)
  if s.cgb then shown.foldl lowerX none else shown.head?

/-- The shade a DMG palette register gives a colour index (R641). -/
def dmgShade (palette : Byte) (ci : Nat) : Pixel := .shade ((palette >>> (2 * ci)).extractLsb' 0 2)

/-- `conv(k) = floor(k * 255 / 31)` (R642). -/
def convChannel (k : Nat) : Nat := k * 255 / 31

/-- `CgbColour(RAM, p, c)` (R642). -/
def cgbColour (ram : Memory) (p c : Nat) : Pixel :=
  let w : BitVec 16 := pairOf (ram.read (8 * p + 2 * c + 1)) (ram.read (8 * p + 2 * c))
  .colour (BitVec.ofNat 32
    (0xFF000000 + convChannel (field w 0 5) * 65536 + convChannel (field w 5 5) * 256 + convChannel (field w 10 5)))

/-- The colour of the background or window pixel, with the colour index that priority looks at (R626). -/
def backgroundColour (s : State) (x y : Nat) : Nat × Byte × Pixel :=
  let p := backgroundPixel s x y
  if s.cgb then (p.1, p.2, cgbColour s.ppu.bgPalette (field p.2 0 3) p.1)
  else if s.ppu.lcdc.getLsbD 0 then (p.1, p.2, dmgShade s.ppu.bgp p.1)
  else (0, p.2, .shade 0)

/-- Whether the sprite pixel is shown over the background pixel (R626). -/
def spriteShown (s : State) (ci : Nat) (attr : Byte) (p : Sprite) : Bool :=
  s.ppu.lcdc.getLsbD 1 &&
    !(decide (ci ≠ 0) && (p.attr.getLsbD 7 || (s.cgb && attr.getLsbD 7)) && !(s.cgb && !s.ppu.lcdc.getLsbD 0))

/-- The colour of a sprite pixel (R626). -/
def spriteColour (s : State) (p : Sprite) (sci : Nat) : Pixel :=
  if s.cgb then cgbColour s.ppu.objPalette (field p.attr 0 3) sci
  else dmgShade (if p.attr.getLsbD 4 then s.ppu.obp1 else s.ppu.obp0) sci

/-- The pixel `FB[y][x]` (R626). -/
def composePixel (s : State) (sprites : List Sprite) (y x : Nat) : Pixel :=
  let bg := backgroundColour s x y
  match winningSprite s sprites x y with
  | some (p, sci) => if spriteShown s bg.1 bg.2.1 p then spriteColour s p sci else bg.2.2
  | none => bg.2.2

/-- The line `FB[y]` (R603, R620 to R626). -/
def renderLine (s : State) (y : Nat) : List Pixel := (List.range 160).map (composePixel s (lineSprites s y) y)

end Sys2Proof.Machine
end

