-- ==== Sys2Proof/Machine/Ppu.lean ====
section
/-! DEFINITION. The PPU's mode sequence and its register writes (spec/62_ppu.md R602 to R608, R642). -/

namespace Sys2Proof.Machine

/-- `CheckLyc()` (R607). -/
def checkLyc (s : State) : State :=
  let eq := decide (s.ppu.ly = s.ppu.lyc.toNat)
  let s1 := { s with ppu := { s.ppu with lycEqual := eq } }
  if s.ppu.lcdOn && !s.ppu.lycEqual && eq && s.ppu.statEnable.getLsbD 3 then s1.request 1 else s1

/-- `mode <- m`. -/
def State.setMode (s : State) (m : PpuMode) : State := { s with ppu := { s.ppu with mode := m } }

/-- `IF[1] <- 1` if STAT bit `3 + n` is set (R603, R605). -/
def statRequest (n : Nat) (s : State) : State := if s.ppu.statEnable.getLsbD n then s.request 1 else s

/-- `EnterMode(2)` (R603). -/
def enterOamScan (s : State) : State := statRequest 2 (s.setMode .oamScan)

/-- `EnterMode(3)` (R603): the line is rendered. -/
def enterTransfer (s : State) : State :=
  let s1 := s.setMode .transfer
  { s1 with ppu := { s1.ppu with frame := s1.ppu.frame.set s1.ppu.ly (renderLine s1 s1.ppu.ly) } }

/-- `EnterMode(0)` (R603): the STAT request, then the H-blank block. -/
def enterHblank (s : State) : Out State := hblankBlock (statRequest 0 (s.setMode .hblank))

/-- `EnterMode(1)` (R603): the VBlank request, the STAT request, the frame to the host, the drain of host events. -/
def enterVblank (s : State) : State :=
  let s1 := statRequest 1 ((s.setMode .vblank).request 0)
  drainEvents (s1.send (.frame s1.ppu.frame))

/-- The end of a line (R602): the next line, the comparison with LYC, and the mode it begins in. -/
def nextLine (s : State) : State :=
  let s1 := checkLyc { s with ppu := { s.ppu with lineDot := 0, ly := (s.ppu.ly + 1) % 154 } }
  if s1.ppu.ly < 144 then enterOamScan s1
  else if s1.ppu.ly = 144 then enterVblank s1
  else s1

/-- One dot (R602). -/
def ppuDot (s : State) : Out State :=
  let s1 := { s with ppu := { s.ppu with lineDot := s.ppu.lineDot + 1 } }
  if s1.ppu.ly < 144 ∧ s1.ppu.lineDot = 80 then .next (enterTransfer s1)
  else if s1.ppu.ly < 144 ∧ s1.ppu.lineDot = 252 then enterHblank s1
  else if s1.ppu.lineDot = 456 then .next (nextLine s1)
  else .next s1

/-- `d` dots. -/
def ppuDots : Nat → State → Out State
  | 0, s => .next s
  | d + 1, s => andThen (ppuDot s) (ppuDots d)

/-- `PpuAdvance(d)` (R602): nothing while the LCD is off (R608). -/
def ppuAdvance (d : Nat) (s : State) : Out State := if s.ppu.lcdOn then ppuDots d s else .next s

/-- The PPU at line 0, dot 0 (R608). -/
def restartPpu (s : State) : State := { s with ppu := { s.ppu with ly := 0, lineDot := 0 } }

/-- A write to LCDC (R604, R608). -/
def lcdcWrite (v : Byte) (s : State) : State :=
  let s1 := { s with ppu := { s.ppu with lcdc := v } }
  if s.ppu.lcdOn && !v.getLsbD 7 then
    let s2 := checkLyc ((restartPpu s1).setMode .hblank)
    { s2 with ppu := { s2.ppu with frame := brightFrame s.model } }
  else if !s.ppu.lcdOn && v.getLsbD 7 then enterOamScan (checkLyc (restartPpu s1))
  else s1

/-- A write to an index register of palette RAM (R642). -/
def paletteIndexWrite (v : Byte) : PaletteIndex := { auto := v.getLsbD 7, index := v.extractLsb' 0 6 }

/-- The index after a data write (R642). -/
def PaletteIndex.afterWrite (i : PaletteIndex) : PaletteIndex :=
  if i.auto then { i with index := i.index + 1 } else i

end Sys2Proof.Machine
end

