-- ==== Sys2Proof/Machine/Sound.lean ====
section
/-! DEFINITION. The sound unit (spec/63_sound.md). Times are exact rationals in seconds
(log entry 20). -/

namespace Sys2Proof.Machine

/-- `Δ`, one sample (R702). -/
def sampleTime : Rat := 1 / 44100

/-- How many turns `while t >= p: t <- t - p` takes, for `p > 0`. -/
def turns (t p : Rat) : Nat := (t / p).floor.toNat

/-- `x mod 1`. -/
def fracPart (x : Rat) : Rat := x - (x.floor : Rat)

/-! ### Length and envelope -/

/-- The length counter of a channel with length enable `enabled` (R703): `len_left` and `on`. -/
def lengthClock (enabled : Bool) (lenLeft : Rat) (on : Bool) : Rat × Bool :=
  if enabled then
    let l := lenLeft - sampleTime
    (l, if l ≤ 0 then false else on)
  else (lenLeft, on)

/-- `(64 - L) / 256` s for the low six bits of NRx1 (R703). -/
def toneLength (nrx1 : Byte) : Rat := ((64 - field nrx1 0 6 : Nat) : Rat) / 256

/-- `(256 - NR31) / 256` s (R703). -/
def waveLength (nr31 : Byte) : Rat := ((256 - nr31.toNat : Nat) : Rat) / 256

/-- One envelope step: the volume moves by one and stops at 0 and 15 (R704). -/
def envelopeStep (e : Envelope) : Envelope :=
  if e.up then (if e.vol.toNat < 15 then { e with vol := e.vol + 1 } else e)
  else if 0 < e.vol.toNat then { e with vol := e.vol - 1 }
  else e

/-- The envelope at one sample (R704). -/
def envelopeClock (e : Envelope) : Envelope :=
  if e.period = 0 then e
  else
    let p : Rat := (e.period.toNat : Rat) / 64
    let e1 := { e with t := e.t + sampleTime }
    loopWhile (fun x => decide (p ≤ x.t)) (fun x => envelopeStep { x with t := x.t - p }) (turns e1.t p) e1

/-- The envelope that a trigger loads from NRx2 (R704, R713). -/
def envelopeLoad (nrx2 : Byte) : Envelope :=
  { vol := nrx2.extractLsb' 4 4, up := nrx2.getLsbD 3, period := nrx2.extractLsb' 0 3, t := 0 }

/-! ### Tone channels -/

/-- `(NRx4[2:0] << 8) | NRx3` (R713). -/
def freqOf (nrx4 nrx3 : Byte) : BitVec 11 := nrx4.extractLsb' 0 3 ++ nrx3

/-- `duty(NRx1[7:6])` (R711). -/
def dutyOf (nrx1 : Byte) : Rat :=
  match field nrx1 6 2 with
  | 0 => 1 / 8
  | 1 => 1 / 4
  | 2 => 1 / 2
  | _ => 3 / 4

/-- The waveform timer of a tone channel (R714): `f = 131072 / (2048 - freq)` Hz. -/
def phaseClock (c : Tone) : Tone :=
  { c with phase := fracPart (c.phase + 131072 / ((2048 - c.freq.toNat : Nat) : Rat) * sampleTime) }

/-- A tone channel at one sample, but for channel 1's sweep: waveform, length, envelope (R702). -/
def toneClock (c : Tone) : Tone :=
  let c1 := phaseClock c
  let len := lengthClock (c1.nrx4.getLsbD 6) c1.lenLeft c1.on
  { c1 with lenLeft := len.1, on := len.2, env := envelopeClock c1.env }

/-- `Output(k)` of a tone channel (R714). -/
def toneOutput (c : Tone) : BitVec 4 := if c.phase < dutyOf c.nrx1 then c.env.vol else 0

/-- One sweep step (R710). -/
def sweepStep (u : Sound) : Sound :=
  let n := field u.nr10 0 3
  let x := u.ch1.freq.toNat
  let delta := x / 2 ^ n
  let y := if u.nr10.getLsbD 3 then x - delta else x + delta
  if y > 2047 then { u with ch1 := { u.ch1 with on := false } }
  else { u with ch1 := { u.ch1 with freq := BitVec.ofNat 11 y } }

/-- The sweep at one sample (R710). -/
def sweepClock (u : Sound) : Sound :=
  let p := field u.nr10 4 3
  if p = 0 then u
  else
    let per : Rat := (p : Rat) / 128
    let u1 := { u with sweepT := u.sweepT + sampleTime }
    loopWhile (fun x => decide (per ≤ x.sweepT) && x.ch1.on)
      (fun x => sweepStep { x with sweepT := x.sweepT - per }) (turns u1.sweepT per) u1

/-- The trigger of a tone channel (R713). -/
def toneTrigger (c : Tone) : Tone :=
  { c with on := true, lenLeft := toneLength c.nrx1, env := envelopeLoad c.nrx2 }

/-- A write to NRx1 (R711). -/
def toneWrite1 (v : Byte) (c : Tone) : Tone := { c with nrx1 := v, lenLeft := toneLength v }

/-- A write to NRx2 (R712). -/
def toneWrite2 (v : Byte) (c : Tone) : Tone := { c with nrx2 := v }

/-- A write to NRx3 (R713). -/
def toneWrite3 (v : Byte) (c : Tone) : Tone := { c with nrx3 := v, freq := freqOf c.nrx4 v }

/-- A write to NRx4 (R713). -/
def toneWrite4 (v : Byte) (c : Tone) : Tone :=
  let c1 := { c with nrx4 := v, freq := freqOf v c.nrx3 }
  if v.getLsbD 7 then toneTrigger c1 else c1

/-! ### Wave channel -/

/-- `WaveTable()` (R720): 32 samples, high nibble first. -/
def waveTable (ram : Memory) : List (BitVec 4) :=
  (List.range 32).map fun i =>
    let v := ram.read (i / 2)
    if i % 2 = 0 then v.extractLsb' 4 4 else v.extractLsb' 0 4

/-- One step of the table (R722): at a wrap the table and the volume code are taken again. -/
def waveStep (ram : Memory) (c : Wave) : Wave :=
  let i := c.index + 1
  if i = 0 then { c with index := i, table := waveTable ram, volCode := c.nr32.extractLsb' 5 2 }
  else { c with index := i }

/-- The waveform timer of the wave channel (R722). -/
def waveTimer (ram : Memory) (c : Wave) : Wave :=
  let step : Rat := ((2048 - c.freq.toNat : Nat) : Rat) / 65536 / 32
  let c1 := { c with t := c.t + sampleTime }
  loopWhile (fun x => decide (step ≤ x.t)) (fun x => waveStep ram { x with t := x.t - step }) (turns c1.t step) c1

/-- The wave channel at one sample: waveform, length (R702). -/
def waveClock (ram : Memory) (c : Wave) : Wave :=
  let c1 := waveTimer ram c
  let len := lengthClock (c1.nr34.getLsbD 6) c1.lenLeft c1.on
  { c1 with lenLeft := len.1, on := len.2 }

/-- The shift a volume code stands for (R721). -/
def waveShift (code : BitVec 2) : Nat :=
  match code.toNat with
  | 0 => 4
  | 1 => 0
  | 2 => 1
  | _ => 2

/-- `Output(3)` (R722). -/
def waveOutput (c : Wave) : BitVec 4 :=
  if c.nr30.getLsbD 7 then c.table.getD c.index.toNat 0 >>> waveShift c.volCode else 0

/-- The trigger of the wave channel (R720). -/
def waveTrigger (ram : Memory) (c : Wave) : Wave :=
  { c with on := true, lenLeft := waveLength c.nr31, index := 0, t := 0, table := waveTable ram
           volCode := c.nr32.extractLsb' 5 2 }

/-- A write to NR34 (R720). -/
def waveWrite4 (ram : Memory) (v : Byte) (c : Wave) : Wave :=
  let c1 := { c with nr34 := v, freq := freqOf v c.nr33 }
  if v.getLsbD 7 then waveTrigger ram c1 else c1

/-! ### Noise channel -/

/-- `LfsrClock()` (R731). -/
def lfsrClock (wide7 : Bool) (v : BitVec 15) : BitVec 15 :=
  let b := v.getLsbD 0 ^^ v.getLsbD 1
  let w := (v >>> 1) ||| (if b then 0x4000 else 0)
  if wide7 then (w &&& ~~~0x40#15) ||| (if b then 0x40 else 0) else w

/-- The LFSR's clock period `t` (R731). -/
def noisePeriod (nr43 : Byte) : Rat :=
  let r0 := field nr43 0 3
  let r := if r0 = 0 then 1 else 2 * r0
  ((r * 2 ^ (field nr43 4 4 + 1) : Nat) : Rat) / 1048576

/-- The waveform timer of the noise channel (R731). -/
def noiseTimer (c : Noise) : Noise :=
  let p := noisePeriod c.nr43
  let c1 := { c with t := c.t + sampleTime }
  loopWhile (fun x => decide (p ≤ x.t))
    (fun x => { x with t := x.t - p, lfsr := lfsrClock (x.nr43.getLsbD 3) x.lfsr }) (turns c1.t p) c1

/-- The noise channel at one sample: waveform, length, envelope (R702). -/
def noiseClock (c : Noise) : Noise :=
  let c1 := noiseTimer c
  let len := lengthClock (c1.nr44.getLsbD 6) c1.lenLeft c1.on
  { c1 with lenLeft := len.1, on := len.2, env := envelopeClock c1.env }

/-- `Output(4)` (R731). -/
def noiseOutput (c : Noise) : BitVec 4 := if c.lfsr.getLsbD 0 then 0 else c.env.vol

/-- A write to NR44 (R730). -/
def noiseWrite4 (v : Byte) (c : Noise) : Noise :=
  let c1 := { c with nr44 := v }
  if v.getLsbD 7 then
    { c1 with on := true, lenLeft := toneLength c1.nr41, env := envelopeLoad c1.nr42, lfsr := 0x7FFF, t := 0 }
  else c1

/-! ### Samples and the mixer -/

/-- The clocks of the channels that are on, in channel order (R702). -/
def clockChannels (u : Sound) : Sound :=
  let u1 := if u.ch1.on then sweepClock { u with ch1 := toneClock u.ch1 } else u
  let u2 := if u1.ch2.on then { u1 with ch2 := toneClock u1.ch2 } else u1
  let u3 := if u2.ch3.on then { u2 with ch3 := waveClock u2.waveRam u2.ch3 } else u2
  if u3.ch4.on then { u3 with ch4 := noiseClock u3.ch4 } else u3

/-- The levels `d[1..4]`, the two master volumes and the routing at a sample (R702, R740). -/
def soundInput (u : Sound) : SoundInput :=
  { level1 := if u.ch1.on && u.power then toneOutput u.ch1 else 0
    level2 := if u.ch2.on && u.power then toneOutput u.ch2 else 0
    level3 := if u.ch3.on && u.power then waveOutput u.ch3 else 0
    level4 := if u.ch4.on && u.power then noiseOutput u.ch4 else 0
    leftVolume := u.nr50.extractLsb' 4 3
    rightVolume := u.nr50.extractLsb' 0 3
    routing := u.nr51 }

/-- Whether NR51 routes channel `k` to a side: bit `4 + (k - 1)` for the left, bit `k - 1` for the right (R740). -/
def routesTo (i : SoundInput) (side : Side) (k : Nat) : Bool :=
  match side with
  | .left => i.routing.getLsbD (4 + (k - 1))
  | .right => i.routing.getLsbD (k - 1)

/-- The master volume of a side (R740). -/
def masterVolume (i : SoundInput) : Side → BitVec 3
  | .left => i.leftVolume
  | .right => i.rightVolume

/-- A value where the condition holds, none where it does not. -/
def keepIf {α : Type} (c : Bool) (x : α) : Option α := if c then some x else none

/-- The pre-filter sum of a side at the newest of the samples so far (R745, law 2): only what is routed to the side
goes in. -/
def sideSum (side : Side) (i : SoundInput) (past : FilterState) : ℝ :=
  Config.scaledSum side
    [keepIf (routesTo i side 1) i.level1, keepIf (routesTo i side 2) i.level2, keepIf (routesTo i side 3) i.level3]
    (keepIf (routesTo i side 4) (Config.noiseHighPass side ((i :: past).map fun j => (j.level4, routesTo j side 4))))
    (masterVolume i side)

/-- The pre-filter sums of a side at every sample so far, newest first (R745). -/
def sideSums (side : Side) : FilterState → List ℝ
  | [] => []
  | i :: past => sideSum side i past :: sideSums side past

/-- The clamp to [-1, 1] (R745). -/
def clampUnit (x : ℝ) : ℝ := max (-1) (min 1 x)

/-- One side of the frame at the newest sample (R745): the low-pass of that side's sums, clamped. -/
def sideOutput (side : Side) (samples : FilterState) : ℝ :=
  clampUnit (Config.lowPass side (sideSums side samples))

/-- The stereo frame (left, right) at the newest sample (R745). It is a value for the host alone: no step reads it. -/
def stereoFrame (samples : FilterState) : ℝ × ℝ := (sideOutput .left samples, sideOutput .right samples)

/-- `SampleTick()` (R702): the output filters take one more sample, and its frame goes to the host. -/
def sampleTick (s : State) : State :=
  let u := clockChannels s.sound
  let samples := soundInput u :: u.filter
  { s with sound := { u with filter := samples } }.send (.audio samples)

/-- `SoundAdvance(d)` (R701). -/
def soundAdvance (d : Nat) (s : State) : State :=
  let s1 := { s with sound := { s.sound with sampleAcc := s.sound.sampleAcc + sampleHz * d } }
  loopWhile (fun t => decide (cpuClockHz ≤ t.sound.sampleAcc))
    (fun t => sampleTick { t with sound := { t.sound with sampleAcc := t.sound.sampleAcc - cpuClockHz } })
    (s1.sound.sampleAcc / cpuClockHz) s1

/-! ### NR52 -/

/-- A tone channel after power-off (R741). -/
def tonePowerOff (c : Tone) : Tone :=
  { c with nrx1 := 0, nrx2 := 0, nrx3 := 0, nrx4 := 0, on := false, lenLeft := 0, env := Envelope.zero, freq := 0 }

/-- The wave channel after power-off (R741). -/
def wavePowerOff (c : Wave) : Wave :=
  { c with nr30 := 0, nr31 := 0, nr32 := 0, nr33 := 0, nr34 := 0, on := false, lenLeft := 0, freq := 0 }

/-- The noise channel after power-off (R741). -/
def noisePowerOff (c : Noise) : Noise :=
  { c with nr41 := 0, nr42 := 0, nr43 := 0, nr44 := 0, on := false, lenLeft := 0, env := Envelope.zero }

/-- A write to NR52 (R741; what it keeps: log entry 11). -/
def nr52Write (v : Byte) (u : Sound) : Sound :=
  if v.getLsbD 7 then { u with power := true }
  else
    { u with power := false, nr10 := 0, sweepT := 0, ch1 := tonePowerOff u.ch1, ch2 := tonePowerOff u.ch2
             ch3 := wavePowerOff u.ch3, ch4 := noisePowerOff u.ch4, nr50 := 0, nr51 := 0 }

end Sys2Proof.Machine
end

