-- ==== Sys2Proof/Machine/IoWrite.lean ====
section
/-! DEFINITION. `IOWrite` (spec/20_memory.md R104; spec/10_state.md R51, R52): the write of each I/O register, with
its side effect. -/

namespace Sys2Proof.Machine

/-- A write to NR10..NR51, ignored while the unit is off (63_sound.md R705). -/
def soundWrite (f : Sound → Sound) (s : State) : State := if s.sound.power then { s with sound := f s.sound } else s

/-- A write to NR14: channel 1's trigger also restarts its sweep (63_sound.md R713). -/
def nr14Write (v : Byte) (u : Sound) : Sound :=
  let u1 := { u with ch1 := toneWrite4 v u.ch1 }
  if v.getLsbD 7 then { u1 with sweepT := 0 } else u1

/-- A write to SC (60_exceptions.md R535): bit 7 starts a transfer, a clear bit 7 ends one. -/
def scWrite (v : Byte) (s : State) : State :=
  { s with serial := { s.serial with sc := v, busy := v.getLsbD 7 } }

/-- A write to one of HDMA1..HDMA4: the byte is stored, and on CGB the addresses are formed (20_memory.md R160;
log entry 18). -/
def hdmaRegWrite (f : Hdma → Hdma) (s : State) : State :=
  { s with hdma := if s.cgb then hdmaLatch (f s.hdma) else f s.hdma }

/-- A write to a data port of palette RAM (62_ppu.md R642). -/
def bcpdWrite (v : Byte) (p : Ppu) : Ppu :=
  { p with bgPalette := p.bgPalette.write p.bcps.index.toNat v, bcps := p.bcps.afterWrite }

/-- The same for OCPD. -/
def ocpdWrite (v : Byte) (p : Ppu) : Ppu :=
  { p with objPalette := p.objPalette.write p.ocps.index.toNat v, ocps := p.ocps.afterWrite }

/-- The write of a register (R51), on the model whose column it is. -/
def ioRegWrite (r : IoReg) (v : Byte) (s : State) : Out State :=
  match r with
  | .p1 => .next { s with keypad := { s.keypad with select := v.extractLsb' 4 2 } }
  | .sb => .next { s with serial := { s.serial with sb := v } }
  | .sc => .next (scWrite v s)
  | .div => .next { s with timer := { s.timer with divCounter := 0 } }
  | .tima => .next { s with timer := { s.timer with tima := v } }
  | .tma => .next { s with timer := { s.timer with tma := v } }
  | .tac => .next { s with timer := { s.timer with tac := v } }
  | .ifReg => .next { s with irq := { s.irq with ifByte := v } }
  | .nr10 => .next (soundWrite (fun u => { u with nr10 := v }) s)
  | .nr11 => .next (soundWrite (fun u => { u with ch1 := toneWrite1 v u.ch1 }) s)
  | .nr12 => .next (soundWrite (fun u => { u with ch1 := toneWrite2 v u.ch1 }) s)
  | .nr13 => .next (soundWrite (fun u => { u with ch1 := toneWrite3 v u.ch1 }) s)
  | .nr14 => .next (soundWrite (nr14Write v) s)
  | .nr21 => .next (soundWrite (fun u => { u with ch2 := toneWrite1 v u.ch2 }) s)
  | .nr22 => .next (soundWrite (fun u => { u with ch2 := toneWrite2 v u.ch2 }) s)
  | .nr23 => .next (soundWrite (fun u => { u with ch2 := toneWrite3 v u.ch2 }) s)
  | .nr24 => .next (soundWrite (fun u => { u with ch2 := toneWrite4 v u.ch2 }) s)
  | .nr30 => .next (soundWrite (fun u => { u with ch3 := { u.ch3 with nr30 := v } }) s)
  | .nr31 => .next (soundWrite (fun u => { u with ch3 := { u.ch3 with nr31 := v, lenLeft := waveLength v } }) s)
  | .nr32 => .next (soundWrite (fun u => { u with ch3 := { u.ch3 with nr32 := v } }) s)
  | .nr33 => .next (soundWrite (fun u => { u with ch3 := { u.ch3 with nr33 := v, freq := freqOf u.ch3.nr34 v } }) s)
  | .nr34 => .next (soundWrite (fun u => { u with ch3 := waveWrite4 u.waveRam v u.ch3 }) s)
  | .nr41 => .next (soundWrite (fun u => { u with ch4 := { u.ch4 with nr41 := v, lenLeft := toneLength v } }) s)
  | .nr42 => .next (soundWrite (fun u => { u with ch4 := { u.ch4 with nr42 := v } }) s)
  | .nr43 => .next (soundWrite (fun u => { u with ch4 := { u.ch4 with nr43 := v } }) s)
  | .nr44 => .next (soundWrite (fun u => { u with ch4 := noiseWrite4 v u.ch4 }) s)
  | .nr50 => .next (soundWrite (fun u => { u with nr50 := v }) s)
  | .nr51 => .next (soundWrite (fun u => { u with nr51 := v }) s)
  | .nr52 => .next { s with sound := nr52Write v s.sound }
  | .lcdc => .next (lcdcWrite v s)
  | .stat => .next { s with ppu := { s.ppu with statEnable := v.extractLsb' 3 4 } }
  | .scy => .next { s with ppu := { s.ppu with scy := v } }
  | .scx => .next { s with ppu := { s.ppu with scx := v } }
  | .ly => .next s
  | .lyc => .next (checkLyc { s with ppu := { s.ppu with lyc := v } })
  | .dma => oamDma v s
  | .bgp => .next { s with ppu := { s.ppu with bgp := v } }
  | .obp0 => .next { s with ppu := { s.ppu with obp0 := v } }
  | .obp1 => .next { s with ppu := { s.ppu with obp1 := v } }
  | .wy => .next { s with ppu := { s.ppu with wy := v } }
  | .wx => .next { s with ppu := { s.ppu with wx := v } }
  | .key1 => .next { s with cpu := { s.cpu with key1Armed := v.getLsbD 0 } }
  | .vbk => .next (s.setMbc { s.mbc with vramBank := v.getLsbD 0 })
  | .hdma1 => .next (hdmaRegWrite (fun d => { d with reg1 := v }) s)
  | .hdma2 => .next (hdmaRegWrite (fun d => { d with reg2 := v }) s)
  | .hdma3 => .next (hdmaRegWrite (fun d => { d with reg3 := v }) s)
  | .hdma4 => .next (hdmaRegWrite (fun d => { d with reg4 := v }) s)
  | .hdma5 => hdma5Write v s
  | .bcps => .next { s with ppu := { s.ppu with bcps := paletteIndexWrite v } }
  | .bcpd => .next { s with ppu := bcpdWrite v s.ppu }
  | .ocps => .next { s with ppu := { s.ppu with ocps := paletteIndexWrite v } }
  | .ocpd => .next { s with ppu := ocpdWrite v s.ppu }
  | .svbk => .next (s.setMbc { s.mbc with
      wramBank := if v.extractLsb' 0 3 = 0 then 1 else v.extractLsb' 0 3 })

/-- Stores a byte of the I/O file. -/
def storeIo (s : State) (k : Nat) (v : Byte) : State := { s with mem := { s.mem with io := s.mem.io.write k v } }

/-- `IOWrite(a, v)` (20_memory.md R104): on DMG a register marked CGB is a stored byte, and a write to an
unimplemented address is a fault (R51, R52). -/
def ioWrite (a : Byte) (v : Byte) (s : State) : Out State :=
  match ioSlot a with
  | .wave i => .next { s with sound := { s.sound with waveRam := s.sound.waveRam.write i v } }
  | .unimplemented => stopWith (.unimplementedIOWrite (highPage a)) s
  | .reg r =>
    match r.storedOnDmg with
    | some k => if s.cgb then ioRegWrite r v s else .next (storeIo s k v)
    | none => ioRegWrite r v s

end Sys2Proof.Machine
end

