-- ==== Sys2Proof/Machine/Ops.lean ====
section
/-! DEFINITION. The machine primitives of spec/00_scope.md R14 over memory and the stack, and taking an interrupt
(spec/60_exceptions.md R503) with the return from one (spec/45_control.md R411). -/

namespace Sys2Proof.Machine

/-- The write of a byte to a physical place (20_memory.md R104). ROM never changes; open bus takes nothing (R117);
an MBC2 cell keeps the low nibble (R131). -/
def storeLoc (l : Loc) (v : Byte) (s : State) : Out State :=
  match l with
  | .rom _ => .next s
  | .vram i => .next { s with mem := { s.mem with vram := s.mem.vram.write i v } }
  | .eram i => .next { s with mem := { s.mem with eram := s.mem.eram.write i v } }
  | .mbc2ram i => .next { s with mem := { s.mem with mbc2ram := s.mem.mbc2ram.write i (v &&& 0x0F) } }
  | .rtc r => .next (rtcWrite r v s)
  | .openBus => .next s
  | .wram i => .next { s with mem := { s.mem with wram := s.mem.wram.write i v } }
  | .oam i => .next { s with mem := { s.mem with oam := s.mem.oam.write i v } }
  | .io a => ioWrite a v s
  | .hram i => .next { s with mem := { s.mem with hram := s.mem.hram.write i v } }
  | .ie => .next { s with irq := { s.irq with ieByte := v } }

/-- The unusable region, whose writes have no effect (20_memory.md R115). -/
def unusable (addr : Word) : Bool := decide (0xFEA0 ≤ addr.toNat) && decide (addr.toNat ≤ 0xFEFF)

/-- `MemWrite(addr, 1, v)` (20_memory.md R104): a write to the ROM region is a controller signal (R120). -/
def memWrite (s : State) (addr : Word) (v : Byte) : Out State :=
  if addr.toNat ≤ 0x7FFF then
    if romRefused s addr then stopWith (.mmm01 addr) s else .next (mbcWrite addr v s)
  else if unusable addr then .next s
  else storeLoc (locOf s addr) v s

/-- `fetch8()` (00_scope.md R14): the byte at PC, and the state with PC past it. -/
def fetch8 (s : State) : Out (Byte × State) :=
  andThen (memRead s s.cpu.pc) fun v => .next (v, s.setPc (s.cpu.pc + 1))

/-- `push16(v)` (00_scope.md R14): SP is decremented before each write, the high byte goes first. -/
def push16 (v : Word) (s : State) : Out State :=
  let s1 := s.setSp (s.cpu.sp - 1)
  andThen (memWrite s1 s1.cpu.sp (hiByte v)) fun s2 =>
    let s3 := s2.setSp (s2.cpu.sp - 1)
    memWrite s3 s3.cpu.sp (loByte v)

/-- `pop16()` (00_scope.md R14): the low byte first; SP is incremented after each read. -/
def pop16 (s : State) : Out (Word × State) :=
  andThen (memRead s s.cpu.sp) fun lo =>
    let s1 := s.setSp (s.cpu.sp + 1)
    andThen (memRead s1 s1.cpu.sp) fun hi =>
      .next (pairOf hi lo, s1.setSp (s1.cpu.sp + 1))

/-- The fixed vector of interrupt `n` (60_exceptions.md R501, R503). -/
def interruptVector (n : Nat) : Word := BitVec.ofNat 16 (0x40 + 8 * n)

/-- Taking interrupt `n` (60_exceptions.md R503, R504): IME and the request are cleared, the address of the next
instruction is pushed, and PC is the vector. The time it takes is added by `dispatch`. -/
def takeInterrupt (n : Nat) (s : State) : Out State :=
  let s1 := { s.setIme false with irq := { s.irq with ifByte := clearBitOf s.irq.ifByte n } }
  andThen (push16 s1.cpu.pc s1) fun s2 => .next (s2.setPc (interruptVector n))

/-- The return from an interrupt (45_control.md R411): PC is popped, and IME is set at once. -/
def returnFromInterrupt (s : State) : Out State :=
  andThen (pop16 s) fun r => .next ((r.2.setPc r.1).setIme true)

end Sys2Proof.Machine
end

