-- ==== Sys2Proof/Machine/Fetch.lean ====
section
/-! DEFINITION. Fetching one instruction (spec/30_encoding.md R200, R210), and placing one where it will be fetched. -/

namespace Sys2Proof.Machine

/-- `n` bytes fetched one after another, and the state with PC past them. -/
def fetchBytes : Nat → State → Out (List Byte × State)
  | 0, s => .next ([], s)
  | n + 1, s =>
    andThen (fetch8 s) fun x =>
      andThen (fetchBytes n x.2) fun y => .next (x.1 :: y.1, y.2)

/-- Fetch and decode (R210), whole, before the instruction runs (log entry 13): the opcode alone tells the length
(R200). A second byte of `STOP` other than 0 is an illegal opcode (R215). -/
def fetchInstr (s : State) : Out (Instr × State) :=
  andThen (fetch8 s) fun x =>
    andThen (fetchBytes (opcodeLength x.1 - 1) x.2) fun y =>
      match decode (x.1 :: y.1) with
      | .ok r => .next (r.1, y.2)
      | .error _ => stopWith (.illegalOpcode x.1) y.2

/-- The physical places that keep a byte just as it is put there. -/
def keepsByte (s : State) (addr : Word) : Bool :=
  !romRefused s addr && match locOf s addr with
    | .rom _ | .vram _ | .eram _ | .wram _ | .oam _ | .hram _ => true
    | .mbc2ram _ | .rtc _ | .openBus | .io _ | .ie => false

/-- Puts a byte into the memory behind an address; no controller or register acts. -/
def putByte (addr : Word) (v : Byte) (s : State) : State :=
  match locOf s addr with
  | .rom i => { s with mem := { s.mem with rom := s.mem.rom.write i v } }
  | .vram i => { s with mem := { s.mem with vram := s.mem.vram.write i v } }
  | .eram i => { s with mem := { s.mem with eram := s.mem.eram.write i v } }
  | .wram i => { s with mem := { s.mem with wram := s.mem.wram.write i v } }
  | .oam i => { s with mem := { s.mem with oam := s.mem.oam.write i v } }
  | .hram i => { s with mem := { s.mem with hram := s.mem.hram.write i v } }
  | .mbc2ram _ | .rtc _ | .openBus | .io _ | .ie => s

/-- Puts bytes behind consecutive addresses. -/
def putBytes : List Byte → Word → State → State
  | [], _, s => s
  | v :: rest, addr, s => putBytes rest (addr + 1) (putByte addr v s)

/-- A running state whose PC is at three addresses that keep bytes: PC as it is where they do, else the start of
work RAM. -/
def fetchReady (s : State) : State :=
  let s1 := { s.setHalted false with fault := none }
  let pc := s.cpu.pc
  if keepsByte s1 pc && keepsByte s1 (pc + 1) && keepsByte s1 (pc + 2) then s1 else s1.setPc 0xC000

/-- A state that fetches the given three bytes next. -/
def placeAtFetch (bytes : List Byte) (s : State) : State :=
  let s1 := fetchReady s
  putBytes bytes s1.cpu.pc s1

end Sys2Proof.Machine
end

