-- ==== Sys2Proof/Machine/Flags.lean ====
section
/-! DEFINITION. Results and flag laws of the arithmetic, logic, shift and bit instructions (spec/42_alu8.md,
43_alu16.md, 44_bits.md, 41_loads16.md R326). The flag formulas are on exact naturals, as the spec writes them. -/

namespace Sys2Proof.Machine

/-- The four flags (10_state.md R35). -/
structure FlagSet where
  z : Bool
  n : Bool
  h : Bool
  c : Bool
deriving DecidableEq, Repr

/-- Writes a set of flags. -/
def State.putFlags (s : State) (f : FlagSet) : State := s.setFlags f.z f.n f.h f.c

/-- `bool(b)` as a byte. -/
def bitByte (b : Bool) : Byte := if b then 1 else 0

/-- The result of an ALU operation on A = `a`, the source `v` and the carry (R341 to R348). `CP` computes the
difference that it discards. -/
def aluResult (op : AluOp) (a v : Byte) (c : Bool) : Byte :=
  match op with
  | .add => a + v
  | .adc => a + v + bitByte c
  | .sub => a - v
  | .sbc => a - v - bitByte c
  | .and => a &&& v
  | .xor => a ^^^ v
  | .or => a ||| v
  | .cp => a - v

/-- `hf` of an ALU operation (R341 to R348). -/
def aluHalf (op : AluOp) (a v : Byte) (c : Bool) : Bool :=
  match op with
  | .add => decide (a.toNat % 16 + v.toNat % 16 ≥ 16)
  | .adc => decide (a.toNat % 16 + v.toNat % 16 + c.toNat ≥ 16)
  | .sub => decide (a.toNat % 16 < v.toNat % 16)
  | .sbc => decide (a.toNat % 16 < v.toNat % 16 + c.toNat)
  | .and => true
  | .xor => false
  | .or => false
  | .cp => decide (a.toNat % 16 < v.toNat % 16)

/-- `cf` of an ALU operation (R341 to R348). -/
def aluCarry (op : AluOp) (a v : Byte) (c : Bool) : Bool :=
  match op with
  | .add => decide (a.toNat + v.toNat ≥ 256)
  | .adc => decide (a.toNat + v.toNat + c.toNat ≥ 256)
  | .sub => decide (a.toNat < v.toNat)
  | .sbc => decide (a.toNat < v.toNat + c.toNat)
  | .and => false
  | .xor => false
  | .or => false
  | .cp => decide (a.toNat < v.toNat)

/-- `nf` of an ALU operation (R341 to R348). -/
def aluSubtract (op : AluOp) : Bool :=
  match op with
  | .add => false
  | .adc => false
  | .sub => true
  | .sbc => true
  | .and => false
  | .xor => false
  | .or => false
  | .cp => true

/-- The flags of an ALU operation (R341 to R348). -/
def aluFlags (op : AluOp) (a v : Byte) (c : Bool) : FlagSet :=
  { z := decide (aluResult op a v c = 0), n := aluSubtract op, h := aluHalf op a v c, c := aluCarry op a v c }

/-- What A becomes: the result, and for `CP` A itself (R348). -/
def aluAccumulator (op : AluOp) (a v : Byte) (c : Bool) : Byte :=
  match op with
  | .cp => a
  | _ => aluResult op a v c

/-- The flags of `INC r` on `v`; carry is untouched (R349). -/
def incFlags (v : Byte) (c : Bool) : FlagSet :=
  { z := decide (v + 1 = 0), n := false, h := decide (v.toNat % 16 = 15), c := c }

/-- The flags of `DEC r` on `v`; carry is untouched (R350). -/
def decFlags (v : Byte) (c : Bool) : FlagSet :=
  { z := decide (v = 1), n := true, h := decide (v.toNat % 16 = 0), c := c }

/-- The byte and the carry that `DAA` gives (R354). -/
def daaResult (a : Byte) (n h c : Bool) : Byte × Bool :=
  if n then
    let a1 := if c then a - 0x60 else a
    (if h then a1 - 0x06 else a1, c)
  else
    let adjust := c || decide (a.toNat > 0x99)
    let a1 := if adjust then a + 0x60 else a
    (if h || decide (a1.toNat % 16 > 0x09) then a1 + 0x06 else a1, adjust)

/-- The flags of `ADD HL,rr`; zero is untouched (43_alu16.md R372). -/
def addHlFlags (hl v : Word) (z : Bool) : FlagSet :=
  { z := z, n := false
    h := decide (hl.toNat % 0x1000 + v.toNat % 0x1000 > 0x0FFF)
    c := decide (hl.toNat + v.toNat > 0xFFFF) }

/-- The flags of SP plus an offset: the unsigned addition of SP's low byte and the raw byte (41_loads16.md R326). -/
def spOffsetFlags (sp : Word) (n : Byte) : FlagSet :=
  { z := false, n := false
    h := decide (field sp 0 4 + field n 0 4 > 0xF)
    c := decide (field sp 0 8 + n.toNat > 0xFF) }

/-- The result of a shift or rotation of `v` with carry in `c` (44_bits.md R385 to R392). -/
def shiftResult (op : ShiftOp) (v : Byte) (c : Bool) : Byte :=
  match op with
  | .rlc => (v <<< 1) ||| bitAt (v.getLsbD 7) 0
  | .rrc => (v >>> 1) ||| bitAt (v.getLsbD 0) 7
  | .rl => (v <<< 1) ||| bitAt c 0
  | .rr => (v >>> 1) ||| bitAt c 7
  | .sla => v <<< 1
  | .sra => (v >>> 1) ||| (v &&& 0x80)
  | .swap => (v <<< 4) ||| (v >>> 4)
  | .srl => v >>> 1

/-- The carry that a shift or rotation leaves (44_bits.md R385 to R392). -/
def shiftCarry (op : ShiftOp) (v : Byte) : Bool :=
  match op with
  | .rlc => v.getLsbD 7
  | .rrc => v.getLsbD 0
  | .rl => v.getLsbD 7
  | .rr => v.getLsbD 0
  | .sla => v.getLsbD 7
  | .sra => v.getLsbD 0
  | .swap => false
  | .srl => v.getLsbD 0

/-- The flags of a CB shift: zero from the result (44_bits.md R385 to R392). -/
def shiftFlags (op : ShiftOp) (v : Byte) (c : Bool) : FlagSet :=
  { z := decide (shiftResult op v c = 0), n := false, h := false, c := shiftCarry op v }

/-- The flags of a rotation of A: zero is cleared (44_bits.md R380 to R383). -/
def rotateFlags (op : ShiftOp) (v : Byte) : FlagSet :=
  { z := false, n := false, h := false, c := shiftCarry op v }

/-- The flags of `BIT n`; carry is untouched (44_bits.md R393). -/
def bitFlags (n : BitVec 3) (v : Byte) (c : Bool) : FlagSet :=
  { z := !v.getLsbD n.toNat, n := false, h := true, c := c }

end Sys2Proof.Machine
end

