-- ==== Sys2Proof/Machine/Operands.lean ====
section
/-! DEFINITION. The operand forms of spec/30_encoding.md R202 to R206 and R211. -/

namespace Sys2Proof.Machine

/-- `r8[i]` read (R202): a register, or the byte at HL. -/
def readR8 (r : R8) (s : State) : Out Byte :=
  match r.reg with
  | some p => .next (s.reg p)
  | none => memRead s s.hl

/-- `r8[i] <- v` (R202). -/
def writeR8 (r : R8) (v : Byte) (s : State) : Out State :=
  match r.reg with
  | some p => .next (s.setReg p v)
  | none => memWrite s s.hl v

/-- `reg` for a register operand, `mem` for the byte at HL: the two costs a rule gives. -/
def r8Cost (r : R8) (reg mem : Nat) : Nat :=
  match r.reg with
  | some _ => reg
  | none => mem

/-- The address of an indirect pair (R205). -/
def indAddr (m : R16Mem) (s : State) : Word :=
  match m with
  | .bc => s.bc
  | .de => s.de
  | .hlInc => s.hl
  | .hlDec => s.hl

/-- What an indirect pair does to HL after its use (R205). -/
def indAfter (m : R16Mem) (s : State) : State :=
  match m with
  | .bc => s
  | .de => s
  | .hlInc => s.setR16 .hl (s.hl + 1)
  | .hlDec => s.setR16 .hl (s.hl - 1)

/-- `cond(cc)` (45_control.md R400). -/
def condHolds (cc : Cond) (s : State) : Bool :=
  match cc with
  | .nz => !s.zf
  | .z => s.zf
  | .nc => !s.cf
  | .c => s.cf

end Sys2Proof.Machine
end

