-- ==== Sys2Proof/Machine/Alu16.lean ====
section
/-! DEFINITION. The meanings of the 16-bit arithmetic (spec/43_alu16.md): the shared operations, then one meaning per instruction of
spec/opcode_table.json, named `exec` and its constructor. On entry PC is past the whole instruction (R34). -/

namespace Sys2Proof.Machine

/-- `INC rr` (R370). -/
def incR16 (r : R16) (s : State) : Out State := .next ((s.setR16 r (s.r16 r + 1)).setCost 8)

/-- `DEC rr` (R371). -/
def decR16 (r : R16) (s : State) : Out State := .next ((s.setR16 r (s.r16 r - 1)).setCost 8)

/-- `ADD HL,rr` (R372). -/
def addHl (r : R16) (s : State) : Out State :=
  .next (((s.setR16 .hl (s.hl + s.r16 r)).putFlags (addHlFlags s.hl (s.r16 r) s.zf)).setCost 8)

/-- `ADD SP,e8` (R373). -/
def addSp (e : Byte) (s : State) : Out State :=
  .next (((s.setSp (s.cpu.sp + sext16 e)).putFlags (spOffsetFlags s.cpu.sp e)).setCost 16)

/-- `INC BC` (R370). -/
def execINC_BC (s : State) : Host.Outcome State Fault Refusal := incR16 .bc s

/-- `ADD HL,BC` (R372). -/
def execADD_HL_BC (s : State) : Host.Outcome State Fault Refusal := addHl .bc s

/-- `DEC BC` (R371). -/
def execDEC_BC (s : State) : Host.Outcome State Fault Refusal := decR16 .bc s

/-- `INC DE` (R370). -/
def execINC_DE (s : State) : Host.Outcome State Fault Refusal := incR16 .de s

/-- `ADD HL,DE` (R372). -/
def execADD_HL_DE (s : State) : Host.Outcome State Fault Refusal := addHl .de s

/-- `DEC DE` (R371). -/
def execDEC_DE (s : State) : Host.Outcome State Fault Refusal := decR16 .de s

/-- `INC HL` (R370). -/
def execINC_HL (s : State) : Host.Outcome State Fault Refusal := incR16 .hl s

/-- `ADD HL,HL` (R372). -/
def execADD_HL_HL (s : State) : Host.Outcome State Fault Refusal := addHl .hl s

/-- `DEC HL` (R371). -/
def execDEC_HL (s : State) : Host.Outcome State Fault Refusal := decR16 .hl s

/-- `INC SP` (R370). -/
def execINC_SP (s : State) : Host.Outcome State Fault Refusal := incR16 .sp s

/-- `ADD HL,SP` (R372). -/
def execADD_HL_SP (s : State) : Host.Outcome State Fault Refusal := addHl .sp s

/-- `DEC SP` (R371). -/
def execDEC_SP (s : State) : Host.Outcome State Fault Refusal := decR16 .sp s

/-- `ADD SP,e8` (R373). -/
def execADD_SP_e8 (e : Byte) (s : State) : Host.Outcome State Fault Refusal := addSp e s

end Sys2Proof.Machine
end

