-- ==== Sys2Proof/Machine/Alu8.lean ====
section
/-! DEFINITION. The meanings of the 8-bit arithmetic and logic (spec/42_alu8.md): the shared operations, then one meaning per instruction of
spec/opcode_table.json, named `exec` and its constructor. On entry PC is past the whole instruction (R34). -/

namespace Sys2Proof.Machine

/-- An ALU operation on A and a source byte, at a cost (R340 to R348). -/
def aluOn (op : AluOp) (v : Byte) (cost : Nat) (s : State) : State :=
  ((s.setReg .a (aluAccumulator op s.cpu.a v s.cf)).putFlags (aluFlags op s.cpu.a v s.cf)).setCost cost

/-- An ALU operation with a register or (HL) source (R340). -/
def aluR8 (op : AluOp) (src : R8) (s : State) : Out State :=
  andThen (readR8 src s) fun v => .next (aluOn op v (r8Cost src 4 8) s)

/-- An ALU operation with an immediate source (R340). -/
def aluImm (op : AluOp) (d : Byte) (s : State) : Out State := .next (aluOn op d 8 s)

/-- `INC r` (R349). -/
def incR8 (r : R8) (s : State) : Out State :=
  andThen (readR8 r s) fun v =>
    andThen (writeR8 r (v + 1) s) fun t => .next ((t.putFlags (incFlags v s.cf)).setCost (r8Cost r 4 12))

/-- `DEC r` (R350). -/
def decR8 (r : R8) (s : State) : Out State :=
  andThen (readR8 r s) fun v =>
    andThen (writeR8 r (v - 1) s) fun t => .next ((t.putFlags (decFlags v s.cf)).setCost (r8Cost r 4 12))

/-- `CPL` (R351). -/
def complementA (s : State) : Out State :=
  .next (((s.setReg .a (~~~s.cpu.a)).setFlags s.zf true true s.cf).setCost 4)

/-- `SCF` (R352). -/
def setCarry (s : State) : Out State := .next ((s.setFlags s.zf false false true).setCost 4)

/-- `CCF` (R353). -/
def complementCarry (s : State) : Out State := .next ((s.setFlags s.zf false false (!s.cf)).setCost 4)

/-- `DAA` (R354). -/
def decimalAdjust (s : State) : Out State :=
  let r := daaResult s.cpu.a s.nf s.hf s.cf
  .next (((s.setReg .a r.1).setFlags (decide (r.1 = 0)) s.nf false r.2).setCost 4)

/-- `INC B` (R349). -/
def execINC_B (s : State) : Host.Outcome State Fault Refusal := incR8 .b s

/-- `DEC B` (R350). -/
def execDEC_B (s : State) : Host.Outcome State Fault Refusal := decR8 .b s

/-- `INC C` (R349). -/
def execINC_C (s : State) : Host.Outcome State Fault Refusal := incR8 .c s

/-- `DEC C` (R350). -/
def execDEC_C (s : State) : Host.Outcome State Fault Refusal := decR8 .c s

/-- `INC D` (R349). -/
def execINC_D (s : State) : Host.Outcome State Fault Refusal := incR8 .d s

/-- `DEC D` (R350). -/
def execDEC_D (s : State) : Host.Outcome State Fault Refusal := decR8 .d s

/-- `INC E` (R349). -/
def execINC_E (s : State) : Host.Outcome State Fault Refusal := incR8 .e s

/-- `DEC E` (R350). -/
def execDEC_E (s : State) : Host.Outcome State Fault Refusal := decR8 .e s

/-- `INC H` (R349). -/
def execINC_H (s : State) : Host.Outcome State Fault Refusal := incR8 .h s

/-- `DEC H` (R350). -/
def execDEC_H (s : State) : Host.Outcome State Fault Refusal := decR8 .h s

/-- `DAA` (R354). -/
def execDAA (s : State) : Host.Outcome State Fault Refusal := decimalAdjust s

/-- `INC L` (R349). -/
def execINC_L (s : State) : Host.Outcome State Fault Refusal := incR8 .l s

/-- `DEC L` (R350). -/
def execDEC_L (s : State) : Host.Outcome State Fault Refusal := decR8 .l s

/-- `CPL` (R351). -/
def execCPL (s : State) : Host.Outcome State Fault Refusal := complementA s

/-- `INC (HL)` (R349). -/
def execINC__HL (s : State) : Host.Outcome State Fault Refusal := incR8 .hlMem s

/-- `DEC (HL)` (R350). -/
def execDEC__HL (s : State) : Host.Outcome State Fault Refusal := decR8 .hlMem s

/-- `SCF` (R352). -/
def execSCF (s : State) : Host.Outcome State Fault Refusal := setCarry s

/-- `INC A` (R349). -/
def execINC_A (s : State) : Host.Outcome State Fault Refusal := incR8 .a s

/-- `DEC A` (R350). -/
def execDEC_A (s : State) : Host.Outcome State Fault Refusal := decR8 .a s

/-- `CCF` (R353). -/
def execCCF (s : State) : Host.Outcome State Fault Refusal := complementCarry s

/-- `ADD A,B` (R341). -/
def execADD_A_B (s : State) : Host.Outcome State Fault Refusal := aluR8 .add .b s

/-- `ADD A,C` (R341). -/
def execADD_A_C (s : State) : Host.Outcome State Fault Refusal := aluR8 .add .c s

/-- `ADD A,D` (R341). -/
def execADD_A_D (s : State) : Host.Outcome State Fault Refusal := aluR8 .add .d s

/-- `ADD A,E` (R341). -/
def execADD_A_E (s : State) : Host.Outcome State Fault Refusal := aluR8 .add .e s

/-- `ADD A,H` (R341). -/
def execADD_A_H (s : State) : Host.Outcome State Fault Refusal := aluR8 .add .h s

/-- `ADD A,L` (R341). -/
def execADD_A_L (s : State) : Host.Outcome State Fault Refusal := aluR8 .add .l s

/-- `ADD A,(HL)` (R341). -/
def execADD_A__HL (s : State) : Host.Outcome State Fault Refusal := aluR8 .add .hlMem s

/-- `ADD A,A` (R341). -/
def execADD_A_A (s : State) : Host.Outcome State Fault Refusal := aluR8 .add .a s

/-- `ADC A,B` (R342). -/
def execADC_A_B (s : State) : Host.Outcome State Fault Refusal := aluR8 .adc .b s

/-- `ADC A,C` (R342). -/
def execADC_A_C (s : State) : Host.Outcome State Fault Refusal := aluR8 .adc .c s

/-- `ADC A,D` (R342). -/
def execADC_A_D (s : State) : Host.Outcome State Fault Refusal := aluR8 .adc .d s

/-- `ADC A,E` (R342). -/
def execADC_A_E (s : State) : Host.Outcome State Fault Refusal := aluR8 .adc .e s

/-- `ADC A,H` (R342). -/
def execADC_A_H (s : State) : Host.Outcome State Fault Refusal := aluR8 .adc .h s

/-- `ADC A,L` (R342). -/
def execADC_A_L (s : State) : Host.Outcome State Fault Refusal := aluR8 .adc .l s

/-- `ADC A,(HL)` (R342). -/
def execADC_A__HL (s : State) : Host.Outcome State Fault Refusal := aluR8 .adc .hlMem s

/-- `ADC A,A` (R342). -/
def execADC_A_A (s : State) : Host.Outcome State Fault Refusal := aluR8 .adc .a s

/-- `SUB B` (R343). -/
def execSUB_B (s : State) : Host.Outcome State Fault Refusal := aluR8 .sub .b s

/-- `SUB C` (R343). -/
def execSUB_C (s : State) : Host.Outcome State Fault Refusal := aluR8 .sub .c s

/-- `SUB D` (R343). -/
def execSUB_D (s : State) : Host.Outcome State Fault Refusal := aluR8 .sub .d s

/-- `SUB E` (R343). -/
def execSUB_E (s : State) : Host.Outcome State Fault Refusal := aluR8 .sub .e s

/-- `SUB H` (R343). -/
def execSUB_H (s : State) : Host.Outcome State Fault Refusal := aluR8 .sub .h s

/-- `SUB L` (R343). -/
def execSUB_L (s : State) : Host.Outcome State Fault Refusal := aluR8 .sub .l s

/-- `SUB (HL)` (R343). -/
def execSUB__HL (s : State) : Host.Outcome State Fault Refusal := aluR8 .sub .hlMem s

/-- `SUB A` (R343). -/
def execSUB_A (s : State) : Host.Outcome State Fault Refusal := aluR8 .sub .a s

/-- `SBC A,B` (R344). -/
def execSBC_A_B (s : State) : Host.Outcome State Fault Refusal := aluR8 .sbc .b s

/-- `SBC A,C` (R344). -/
def execSBC_A_C (s : State) : Host.Outcome State Fault Refusal := aluR8 .sbc .c s

/-- `SBC A,D` (R344). -/
def execSBC_A_D (s : State) : Host.Outcome State Fault Refusal := aluR8 .sbc .d s

/-- `SBC A,E` (R344). -/
def execSBC_A_E (s : State) : Host.Outcome State Fault Refusal := aluR8 .sbc .e s

/-- `SBC A,H` (R344). -/
def execSBC_A_H (s : State) : Host.Outcome State Fault Refusal := aluR8 .sbc .h s

/-- `SBC A,L` (R344). -/
def execSBC_A_L (s : State) : Host.Outcome State Fault Refusal := aluR8 .sbc .l s

/-- `SBC A,(HL)` (R344). -/
def execSBC_A__HL (s : State) : Host.Outcome State Fault Refusal := aluR8 .sbc .hlMem s

/-- `SBC A,A` (R344). -/
def execSBC_A_A (s : State) : Host.Outcome State Fault Refusal := aluR8 .sbc .a s

/-- `AND B` (R345). -/
def execAND_B (s : State) : Host.Outcome State Fault Refusal := aluR8 .and .b s

/-- `AND C` (R345). -/
def execAND_C (s : State) : Host.Outcome State Fault Refusal := aluR8 .and .c s

/-- `AND D` (R345). -/
def execAND_D (s : State) : Host.Outcome State Fault Refusal := aluR8 .and .d s

/-- `AND E` (R345). -/
def execAND_E (s : State) : Host.Outcome State Fault Refusal := aluR8 .and .e s

/-- `AND H` (R345). -/
def execAND_H (s : State) : Host.Outcome State Fault Refusal := aluR8 .and .h s

/-- `AND L` (R345). -/
def execAND_L (s : State) : Host.Outcome State Fault Refusal := aluR8 .and .l s

/-- `AND (HL)` (R345). -/
def execAND__HL (s : State) : Host.Outcome State Fault Refusal := aluR8 .and .hlMem s

/-- `AND A` (R345). -/
def execAND_A (s : State) : Host.Outcome State Fault Refusal := aluR8 .and .a s

/-- `XOR B` (R346). -/
def execXOR_B (s : State) : Host.Outcome State Fault Refusal := aluR8 .xor .b s

/-- `XOR C` (R346). -/
def execXOR_C (s : State) : Host.Outcome State Fault Refusal := aluR8 .xor .c s

/-- `XOR D` (R346). -/
def execXOR_D (s : State) : Host.Outcome State Fault Refusal := aluR8 .xor .d s

/-- `XOR E` (R346). -/
def execXOR_E (s : State) : Host.Outcome State Fault Refusal := aluR8 .xor .e s

/-- `XOR H` (R346). -/
def execXOR_H (s : State) : Host.Outcome State Fault Refusal := aluR8 .xor .h s

/-- `XOR L` (R346). -/
def execXOR_L (s : State) : Host.Outcome State Fault Refusal := aluR8 .xor .l s

/-- `XOR (HL)` (R346). -/
def execXOR__HL (s : State) : Host.Outcome State Fault Refusal := aluR8 .xor .hlMem s

/-- `XOR A` (R346). -/
def execXOR_A (s : State) : Host.Outcome State Fault Refusal := aluR8 .xor .a s

/-- `OR B` (R347). -/
def execOR_B (s : State) : Host.Outcome State Fault Refusal := aluR8 .or .b s

/-- `OR C` (R347). -/
def execOR_C (s : State) : Host.Outcome State Fault Refusal := aluR8 .or .c s

/-- `OR D` (R347). -/
def execOR_D (s : State) : Host.Outcome State Fault Refusal := aluR8 .or .d s

/-- `OR E` (R347). -/
def execOR_E (s : State) : Host.Outcome State Fault Refusal := aluR8 .or .e s

/-- `OR H` (R347). -/
def execOR_H (s : State) : Host.Outcome State Fault Refusal := aluR8 .or .h s

/-- `OR L` (R347). -/
def execOR_L (s : State) : Host.Outcome State Fault Refusal := aluR8 .or .l s

/-- `OR (HL)` (R347). -/
def execOR__HL (s : State) : Host.Outcome State Fault Refusal := aluR8 .or .hlMem s

/-- `OR A` (R347). -/
def execOR_A (s : State) : Host.Outcome State Fault Refusal := aluR8 .or .a s

/-- `CP B` (R348). -/
def execCP_B (s : State) : Host.Outcome State Fault Refusal := aluR8 .cp .b s

/-- `CP C` (R348). -/
def execCP_C (s : State) : Host.Outcome State Fault Refusal := aluR8 .cp .c s

/-- `CP D` (R348). -/
def execCP_D (s : State) : Host.Outcome State Fault Refusal := aluR8 .cp .d s

/-- `CP E` (R348). -/
def execCP_E (s : State) : Host.Outcome State Fault Refusal := aluR8 .cp .e s

/-- `CP H` (R348). -/
def execCP_H (s : State) : Host.Outcome State Fault Refusal := aluR8 .cp .h s

/-- `CP L` (R348). -/
def execCP_L (s : State) : Host.Outcome State Fault Refusal := aluR8 .cp .l s

/-- `CP (HL)` (R348). -/
def execCP__HL (s : State) : Host.Outcome State Fault Refusal := aluR8 .cp .hlMem s

/-- `CP A` (R348). -/
def execCP_A (s : State) : Host.Outcome State Fault Refusal := aluR8 .cp .a s

/-- `ADD A,d8` (R341). -/
def execADD_A_d8 (d : Byte) (s : State) : Host.Outcome State Fault Refusal := aluImm .add d s

/-- `ADC A,d8` (R342). -/
def execADC_A_d8 (d : Byte) (s : State) : Host.Outcome State Fault Refusal := aluImm .adc d s

/-- `SUB d8` (R343). -/
def execSUB_d8 (d : Byte) (s : State) : Host.Outcome State Fault Refusal := aluImm .sub d s

/-- `SBC A,d8` (R344). -/
def execSBC_A_d8 (d : Byte) (s : State) : Host.Outcome State Fault Refusal := aluImm .sbc d s

/-- `AND d8` (R345). -/
def execAND_d8 (d : Byte) (s : State) : Host.Outcome State Fault Refusal := aluImm .and d s

/-- `XOR d8` (R346). -/
def execXOR_d8 (d : Byte) (s : State) : Host.Outcome State Fault Refusal := aluImm .xor d s

/-- `OR d8` (R347). -/
def execOR_d8 (d : Byte) (s : State) : Host.Outcome State Fault Refusal := aluImm .or d s

/-- `CP d8` (R348). -/
def execCP_d8 (d : Byte) (s : State) : Host.Outcome State Fault Refusal := aluImm .cp d s

end Sys2Proof.Machine
end

