-- ==== Sys2Proof/Machine/BitOps.lean ====
section
/-! DEFINITION. The meanings of the rotates, shifts and bit operations (spec/44_bits.md): the shared operations, then one meaning per instruction of
spec/opcode_table.json, named `exec` and its constructor. On entry PC is past the whole instruction (R34). -/

namespace Sys2Proof.Machine

/-- A rotation of A (R380 to R383). -/
def rotateA (op : ShiftOp) (s : State) : Out State :=
  .next (((s.setReg .a (shiftResult op s.cpu.a s.cf)).putFlags (rotateFlags op s.cpu.a)).setCost 4)

/-- A CB shift or rotation (R384 to R392). -/
def shiftR8 (op : ShiftOp) (r : R8) (s : State) : Out State :=
  andThen (readR8 r s) fun v =>
    andThen (writeR8 r (shiftResult op v s.cf) s) fun t =>
      .next ((t.putFlags (shiftFlags op v s.cf)).setCost (r8Cost r 8 16))

/-- `BIT n,r` (R393). -/
def bitBit (n : BitVec 3) (r : R8) (s : State) : Out State :=
  andThen (readR8 r s) fun v => .next ((s.putFlags (bitFlags n v s.cf)).setCost (r8Cost r 8 12))

/-- `RES n,r` (R394). -/
def resBit (n : BitVec 3) (r : R8) (s : State) : Out State :=
  andThen (readR8 r s) fun v =>
    andThen (writeR8 r (clearBitOf v n.toNat) s) fun t => .next (t.setCost (r8Cost r 8 16))

/-- `SET n,r` (R395). -/
def setBit (n : BitVec 3) (r : R8) (s : State) : Out State :=
  andThen (readR8 r s) fun v =>
    andThen (writeR8 r (setBitOf v n.toNat) s) fun t => .next (t.setCost (r8Cost r 8 16))

/-- The operand that an operand code names (30_encoding.md R202). -/
def r8OfCode (z : BitVec 3) : R8 := [R8.b, .c, .d, .e, .h, .l, .hlMem, .a].getD z.toNat .a

/-- The shift that a CB shift code names (30_encoding.md R208). -/
def shiftOfCode (y : BitVec 3) : ShiftOp :=
  [ShiftOp.rlc, .rrc, .rl, .rr, .sla, .sra, .swap, .srl].getD y.toNat .srl

/-- The CB instruction whose second byte is `c`, by the fields of R384 (46_system.md R421). -/
def prefixCb (c : Byte) (s : State) : Out State :=
  let y := c.extractLsb' 3 3
  let r := r8OfCode (c.extractLsb' 0 3)
  match field c 6 2 with
  | 0 => shiftR8 (shiftOfCode y) r s
  | 1 => bitBit y r s
  | 2 => resBit y r s
  | _ => setBit y r s

/-- `RLCA` (R380). -/
def execRLCA (s : State) : Host.Outcome State Fault Refusal := rotateA .rlc s

/-- `RRCA` (R381). -/
def execRRCA (s : State) : Host.Outcome State Fault Refusal := rotateA .rrc s

/-- `RLA` (R382). -/
def execRLA (s : State) : Host.Outcome State Fault Refusal := rotateA .rl s

/-- `RRA` (R383). -/
def execRRA (s : State) : Host.Outcome State Fault Refusal := rotateA .rr s

/-- `PREFIX CB` (R421). -/
def execPREFIX_CB (c : Byte) (s : State) : Host.Outcome State Fault Refusal := prefixCb c s

/-- `RLC B` (R385). -/
def execRLC_B (s : State) : Host.Outcome State Fault Refusal := shiftR8 .rlc .b s

/-- `RLC C` (R385). -/
def execRLC_C (s : State) : Host.Outcome State Fault Refusal := shiftR8 .rlc .c s

/-- `RLC D` (R385). -/
def execRLC_D (s : State) : Host.Outcome State Fault Refusal := shiftR8 .rlc .d s

/-- `RLC E` (R385). -/
def execRLC_E (s : State) : Host.Outcome State Fault Refusal := shiftR8 .rlc .e s

/-- `RLC H` (R385). -/
def execRLC_H (s : State) : Host.Outcome State Fault Refusal := shiftR8 .rlc .h s

/-- `RLC L` (R385). -/
def execRLC_L (s : State) : Host.Outcome State Fault Refusal := shiftR8 .rlc .l s

/-- `RLC (HL)` (R385). -/
def execRLC__HL (s : State) : Host.Outcome State Fault Refusal := shiftR8 .rlc .hlMem s

/-- `RLC A` (R385). -/
def execRLC_A (s : State) : Host.Outcome State Fault Refusal := shiftR8 .rlc .a s

/-- `RRC B` (R386). -/
def execRRC_B (s : State) : Host.Outcome State Fault Refusal := shiftR8 .rrc .b s

/-- `RRC C` (R386). -/
def execRRC_C (s : State) : Host.Outcome State Fault Refusal := shiftR8 .rrc .c s

/-- `RRC D` (R386). -/
def execRRC_D (s : State) : Host.Outcome State Fault Refusal := shiftR8 .rrc .d s

/-- `RRC E` (R386). -/
def execRRC_E (s : State) : Host.Outcome State Fault Refusal := shiftR8 .rrc .e s

/-- `RRC H` (R386). -/
def execRRC_H (s : State) : Host.Outcome State Fault Refusal := shiftR8 .rrc .h s

/-- `RRC L` (R386). -/
def execRRC_L (s : State) : Host.Outcome State Fault Refusal := shiftR8 .rrc .l s

/-- `RRC (HL)` (R386). -/
def execRRC__HL (s : State) : Host.Outcome State Fault Refusal := shiftR8 .rrc .hlMem s

/-- `RRC A` (R386). -/
def execRRC_A (s : State) : Host.Outcome State Fault Refusal := shiftR8 .rrc .a s

/-- `RL B` (R387). -/
def execRL_B (s : State) : Host.Outcome State Fault Refusal := shiftR8 .rl .b s

/-- `RL C` (R387). -/
def execRL_C (s : State) : Host.Outcome State Fault Refusal := shiftR8 .rl .c s

/-- `RL D` (R387). -/
def execRL_D (s : State) : Host.Outcome State Fault Refusal := shiftR8 .rl .d s

/-- `RL E` (R387). -/
def execRL_E (s : State) : Host.Outcome State Fault Refusal := shiftR8 .rl .e s

/-- `RL H` (R387). -/
def execRL_H (s : State) : Host.Outcome State Fault Refusal := shiftR8 .rl .h s

/-- `RL L` (R387). -/
def execRL_L (s : State) : Host.Outcome State Fault Refusal := shiftR8 .rl .l s

/-- `RL (HL)` (R387). -/
def execRL__HL (s : State) : Host.Outcome State Fault Refusal := shiftR8 .rl .hlMem s

/-- `RL A` (R387). -/
def execRL_A (s : State) : Host.Outcome State Fault Refusal := shiftR8 .rl .a s

/-- `RR B` (R388). -/
def execRR_B (s : State) : Host.Outcome State Fault Refusal := shiftR8 .rr .b s

/-- `RR C` (R388). -/
def execRR_C (s : State) : Host.Outcome State Fault Refusal := shiftR8 .rr .c s

/-- `RR D` (R388). -/
def execRR_D (s : State) : Host.Outcome State Fault Refusal := shiftR8 .rr .d s

/-- `RR E` (R388). -/
def execRR_E (s : State) : Host.Outcome State Fault Refusal := shiftR8 .rr .e s

/-- `RR H` (R388). -/
def execRR_H (s : State) : Host.Outcome State Fault Refusal := shiftR8 .rr .h s

/-- `RR L` (R388). -/
def execRR_L (s : State) : Host.Outcome State Fault Refusal := shiftR8 .rr .l s

/-- `RR (HL)` (R388). -/
def execRR__HL (s : State) : Host.Outcome State Fault Refusal := shiftR8 .rr .hlMem s

/-- `RR A` (R388). -/
def execRR_A (s : State) : Host.Outcome State Fault Refusal := shiftR8 .rr .a s

/-- `SLA B` (R389). -/
def execSLA_B (s : State) : Host.Outcome State Fault Refusal := shiftR8 .sla .b s

/-- `SLA C` (R389). -/
def execSLA_C (s : State) : Host.Outcome State Fault Refusal := shiftR8 .sla .c s

/-- `SLA D` (R389). -/
def execSLA_D (s : State) : Host.Outcome State Fault Refusal := shiftR8 .sla .d s

/-- `SLA E` (R389). -/
def execSLA_E (s : State) : Host.Outcome State Fault Refusal := shiftR8 .sla .e s

/-- `SLA H` (R389). -/
def execSLA_H (s : State) : Host.Outcome State Fault Refusal := shiftR8 .sla .h s

/-- `SLA L` (R389). -/
def execSLA_L (s : State) : Host.Outcome State Fault Refusal := shiftR8 .sla .l s

/-- `SLA (HL)` (R389). -/
def execSLA__HL (s : State) : Host.Outcome State Fault Refusal := shiftR8 .sla .hlMem s

/-- `SLA A` (R389). -/
def execSLA_A (s : State) : Host.Outcome State Fault Refusal := shiftR8 .sla .a s

/-- `SRA B` (R390). -/
def execSRA_B (s : State) : Host.Outcome State Fault Refusal := shiftR8 .sra .b s

/-- `SRA C` (R390). -/
def execSRA_C (s : State) : Host.Outcome State Fault Refusal := shiftR8 .sra .c s

/-- `SRA D` (R390). -/
def execSRA_D (s : State) : Host.Outcome State Fault Refusal := shiftR8 .sra .d s

/-- `SRA E` (R390). -/
def execSRA_E (s : State) : Host.Outcome State Fault Refusal := shiftR8 .sra .e s

/-- `SRA H` (R390). -/
def execSRA_H (s : State) : Host.Outcome State Fault Refusal := shiftR8 .sra .h s

/-- `SRA L` (R390). -/
def execSRA_L (s : State) : Host.Outcome State Fault Refusal := shiftR8 .sra .l s

/-- `SRA (HL)` (R390). -/
def execSRA__HL (s : State) : Host.Outcome State Fault Refusal := shiftR8 .sra .hlMem s

/-- `SRA A` (R390). -/
def execSRA_A (s : State) : Host.Outcome State Fault Refusal := shiftR8 .sra .a s

/-- `SWAP B` (R391). -/
def execSWAP_B (s : State) : Host.Outcome State Fault Refusal := shiftR8 .swap .b s

/-- `SWAP C` (R391). -/
def execSWAP_C (s : State) : Host.Outcome State Fault Refusal := shiftR8 .swap .c s

/-- `SWAP D` (R391). -/
def execSWAP_D (s : State) : Host.Outcome State Fault Refusal := shiftR8 .swap .d s

/-- `SWAP E` (R391). -/
def execSWAP_E (s : State) : Host.Outcome State Fault Refusal := shiftR8 .swap .e s

/-- `SWAP H` (R391). -/
def execSWAP_H (s : State) : Host.Outcome State Fault Refusal := shiftR8 .swap .h s

/-- `SWAP L` (R391). -/
def execSWAP_L (s : State) : Host.Outcome State Fault Refusal := shiftR8 .swap .l s

/-- `SWAP (HL)` (R391). -/
def execSWAP__HL (s : State) : Host.Outcome State Fault Refusal := shiftR8 .swap .hlMem s

/-- `SWAP A` (R391). -/
def execSWAP_A (s : State) : Host.Outcome State Fault Refusal := shiftR8 .swap .a s

/-- `SRL B` (R392). -/
def execSRL_B (s : State) : Host.Outcome State Fault Refusal := shiftR8 .srl .b s

/-- `SRL C` (R392). -/
def execSRL_C (s : State) : Host.Outcome State Fault Refusal := shiftR8 .srl .c s

/-- `SRL D` (R392). -/
def execSRL_D (s : State) : Host.Outcome State Fault Refusal := shiftR8 .srl .d s

/-- `SRL E` (R392). -/
def execSRL_E (s : State) : Host.Outcome State Fault Refusal := shiftR8 .srl .e s

/-- `SRL H` (R392). -/
def execSRL_H (s : State) : Host.Outcome State Fault Refusal := shiftR8 .srl .h s

/-- `SRL L` (R392). -/
def execSRL_L (s : State) : Host.Outcome State Fault Refusal := shiftR8 .srl .l s

/-- `SRL (HL)` (R392). -/
def execSRL__HL (s : State) : Host.Outcome State Fault Refusal := shiftR8 .srl .hlMem s

/-- `SRL A` (R392). -/
def execSRL_A (s : State) : Host.Outcome State Fault Refusal := shiftR8 .srl .a s

/-- `BIT 0,B` (R393). -/
def execBIT_0_B (s : State) : Host.Outcome State Fault Refusal := bitBit 0 .b s

/-- `BIT 0,C` (R393). -/
def execBIT_0_C (s : State) : Host.Outcome State Fault Refusal := bitBit 0 .c s

/-- `BIT 0,D` (R393). -/
def execBIT_0_D (s : State) : Host.Outcome State Fault Refusal := bitBit 0 .d s

/-- `BIT 0,E` (R393). -/
def execBIT_0_E (s : State) : Host.Outcome State Fault Refusal := bitBit 0 .e s

/-- `BIT 0,H` (R393). -/
def execBIT_0_H (s : State) : Host.Outcome State Fault Refusal := bitBit 0 .h s

/-- `BIT 0,L` (R393). -/
def execBIT_0_L (s : State) : Host.Outcome State Fault Refusal := bitBit 0 .l s

/-- `BIT 0,(HL)` (R393). -/
def execBIT_0__HL (s : State) : Host.Outcome State Fault Refusal := bitBit 0 .hlMem s

/-- `BIT 0,A` (R393). -/
def execBIT_0_A (s : State) : Host.Outcome State Fault Refusal := bitBit 0 .a s

/-- `BIT 1,B` (R393). -/
def execBIT_1_B (s : State) : Host.Outcome State Fault Refusal := bitBit 1 .b s

/-- `BIT 1,C` (R393). -/
def execBIT_1_C (s : State) : Host.Outcome State Fault Refusal := bitBit 1 .c s

/-- `BIT 1,D` (R393). -/
def execBIT_1_D (s : State) : Host.Outcome State Fault Refusal := bitBit 1 .d s

/-- `BIT 1,E` (R393). -/
def execBIT_1_E (s : State) : Host.Outcome State Fault Refusal := bitBit 1 .e s

/-- `BIT 1,H` (R393). -/
def execBIT_1_H (s : State) : Host.Outcome State Fault Refusal := bitBit 1 .h s

/-- `BIT 1,L` (R393). -/
def execBIT_1_L (s : State) : Host.Outcome State Fault Refusal := bitBit 1 .l s

/-- `BIT 1,(HL)` (R393). -/
def execBIT_1__HL (s : State) : Host.Outcome State Fault Refusal := bitBit 1 .hlMem s

/-- `BIT 1,A` (R393). -/
def execBIT_1_A (s : State) : Host.Outcome State Fault Refusal := bitBit 1 .a s

/-- `BIT 2,B` (R393). -/
def execBIT_2_B (s : State) : Host.Outcome State Fault Refusal := bitBit 2 .b s

/-- `BIT 2,C` (R393). -/
def execBIT_2_C (s : State) : Host.Outcome State Fault Refusal := bitBit 2 .c s

/-- `BIT 2,D` (R393). -/
def execBIT_2_D (s : State) : Host.Outcome State Fault Refusal := bitBit 2 .d s

/-- `BIT 2,E` (R393). -/
def execBIT_2_E (s : State) : Host.Outcome State Fault Refusal := bitBit 2 .e s

/-- `BIT 2,H` (R393). -/
def execBIT_2_H (s : State) : Host.Outcome State Fault Refusal := bitBit 2 .h s

/-- `BIT 2,L` (R393). -/
def execBIT_2_L (s : State) : Host.Outcome State Fault Refusal := bitBit 2 .l s

/-- `BIT 2,(HL)` (R393). -/
def execBIT_2__HL (s : State) : Host.Outcome State Fault Refusal := bitBit 2 .hlMem s

/-- `BIT 2,A` (R393). -/
def execBIT_2_A (s : State) : Host.Outcome State Fault Refusal := bitBit 2 .a s

/-- `BIT 3,B` (R393). -/
def execBIT_3_B (s : State) : Host.Outcome State Fault Refusal := bitBit 3 .b s

/-- `BIT 3,C` (R393). -/
def execBIT_3_C (s : State) : Host.Outcome State Fault Refusal := bitBit 3 .c s

/-- `BIT 3,D` (R393). -/
def execBIT_3_D (s : State) : Host.Outcome State Fault Refusal := bitBit 3 .d s

/-- `BIT 3,E` (R393). -/
def execBIT_3_E (s : State) : Host.Outcome State Fault Refusal := bitBit 3 .e s

/-- `BIT 3,H` (R393). -/
def execBIT_3_H (s : State) : Host.Outcome State Fault Refusal := bitBit 3 .h s

/-- `BIT 3,L` (R393). -/
def execBIT_3_L (s : State) : Host.Outcome State Fault Refusal := bitBit 3 .l s

/-- `BIT 3,(HL)` (R393). -/
def execBIT_3__HL (s : State) : Host.Outcome State Fault Refusal := bitBit 3 .hlMem s

/-- `BIT 3,A` (R393). -/
def execBIT_3_A (s : State) : Host.Outcome State Fault Refusal := bitBit 3 .a s

/-- `BIT 4,B` (R393). -/
def execBIT_4_B (s : State) : Host.Outcome State Fault Refusal := bitBit 4 .b s

/-- `BIT 4,C` (R393). -/
def execBIT_4_C (s : State) : Host.Outcome State Fault Refusal := bitBit 4 .c s

/-- `BIT 4,D` (R393). -/
def execBIT_4_D (s : State) : Host.Outcome State Fault Refusal := bitBit 4 .d s

/-- `BIT 4,E` (R393). -/
def execBIT_4_E (s : State) : Host.Outcome State Fault Refusal := bitBit 4 .e s

/-- `BIT 4,H` (R393). -/
def execBIT_4_H (s : State) : Host.Outcome State Fault Refusal := bitBit 4 .h s

/-- `BIT 4,L` (R393). -/
def execBIT_4_L (s : State) : Host.Outcome State Fault Refusal := bitBit 4 .l s

/-- `BIT 4,(HL)` (R393). -/
def execBIT_4__HL (s : State) : Host.Outcome State Fault Refusal := bitBit 4 .hlMem s

/-- `BIT 4,A` (R393). -/
def execBIT_4_A (s : State) : Host.Outcome State Fault Refusal := bitBit 4 .a s

/-- `BIT 5,B` (R393). -/
def execBIT_5_B (s : State) : Host.Outcome State Fault Refusal := bitBit 5 .b s

/-- `BIT 5,C` (R393). -/
def execBIT_5_C (s : State) : Host.Outcome State Fault Refusal := bitBit 5 .c s

/-- `BIT 5,D` (R393). -/
def execBIT_5_D (s : State) : Host.Outcome State Fault Refusal := bitBit 5 .d s

/-- `BIT 5,E` (R393). -/
def execBIT_5_E (s : State) : Host.Outcome State Fault Refusal := bitBit 5 .e s

/-- `BIT 5,H` (R393). -/
def execBIT_5_H (s : State) : Host.Outcome State Fault Refusal := bitBit 5 .h s

/-- `BIT 5,L` (R393). -/
def execBIT_5_L (s : State) : Host.Outcome State Fault Refusal := bitBit 5 .l s

/-- `BIT 5,(HL)` (R393). -/
def execBIT_5__HL (s : State) : Host.Outcome State Fault Refusal := bitBit 5 .hlMem s

/-- `BIT 5,A` (R393). -/
def execBIT_5_A (s : State) : Host.Outcome State Fault Refusal := bitBit 5 .a s

/-- `BIT 6,B` (R393). -/
def execBIT_6_B (s : State) : Host.Outcome State Fault Refusal := bitBit 6 .b s

/-- `BIT 6,C` (R393). -/
def execBIT_6_C (s : State) : Host.Outcome State Fault Refusal := bitBit 6 .c s

/-- `BIT 6,D` (R393). -/
def execBIT_6_D (s : State) : Host.Outcome State Fault Refusal := bitBit 6 .d s

/-- `BIT 6,E` (R393). -/
def execBIT_6_E (s : State) : Host.Outcome State Fault Refusal := bitBit 6 .e s

/-- `BIT 6,H` (R393). -/
def execBIT_6_H (s : State) : Host.Outcome State Fault Refusal := bitBit 6 .h s

/-- `BIT 6,L` (R393). -/
def execBIT_6_L (s : State) : Host.Outcome State Fault Refusal := bitBit 6 .l s

/-- `BIT 6,(HL)` (R393). -/
def execBIT_6__HL (s : State) : Host.Outcome State Fault Refusal := bitBit 6 .hlMem s

/-- `BIT 6,A` (R393). -/
def execBIT_6_A (s : State) : Host.Outcome State Fault Refusal := bitBit 6 .a s

/-- `BIT 7,B` (R393). -/
def execBIT_7_B (s : State) : Host.Outcome State Fault Refusal := bitBit 7 .b s

/-- `BIT 7,C` (R393). -/
def execBIT_7_C (s : State) : Host.Outcome State Fault Refusal := bitBit 7 .c s

/-- `BIT 7,D` (R393). -/
def execBIT_7_D (s : State) : Host.Outcome State Fault Refusal := bitBit 7 .d s

/-- `BIT 7,E` (R393). -/
def execBIT_7_E (s : State) : Host.Outcome State Fault Refusal := bitBit 7 .e s

/-- `BIT 7,H` (R393). -/
def execBIT_7_H (s : State) : Host.Outcome State Fault Refusal := bitBit 7 .h s

/-- `BIT 7,L` (R393). -/
def execBIT_7_L (s : State) : Host.Outcome State Fault Refusal := bitBit 7 .l s

/-- `BIT 7,(HL)` (R393). -/
def execBIT_7__HL (s : State) : Host.Outcome State Fault Refusal := bitBit 7 .hlMem s

/-- `BIT 7,A` (R393). -/
def execBIT_7_A (s : State) : Host.Outcome State Fault Refusal := bitBit 7 .a s

/-- `RES 0,B` (R394). -/
def execRES_0_B (s : State) : Host.Outcome State Fault Refusal := resBit 0 .b s

/-- `RES 0,C` (R394). -/
def execRES_0_C (s : State) : Host.Outcome State Fault Refusal := resBit 0 .c s

/-- `RES 0,D` (R394). -/
def execRES_0_D (s : State) : Host.Outcome State Fault Refusal := resBit 0 .d s

/-- `RES 0,E` (R394). -/
def execRES_0_E (s : State) : Host.Outcome State Fault Refusal := resBit 0 .e s

/-- `RES 0,H` (R394). -/
def execRES_0_H (s : State) : Host.Outcome State Fault Refusal := resBit 0 .h s

/-- `RES 0,L` (R394). -/
def execRES_0_L (s : State) : Host.Outcome State Fault Refusal := resBit 0 .l s

/-- `RES 0,(HL)` (R394). -/
def execRES_0__HL (s : State) : Host.Outcome State Fault Refusal := resBit 0 .hlMem s

/-- `RES 0,A` (R394). -/
def execRES_0_A (s : State) : Host.Outcome State Fault Refusal := resBit 0 .a s

/-- `RES 1,B` (R394). -/
def execRES_1_B (s : State) : Host.Outcome State Fault Refusal := resBit 1 .b s

/-- `RES 1,C` (R394). -/
def execRES_1_C (s : State) : Host.Outcome State Fault Refusal := resBit 1 .c s

/-- `RES 1,D` (R394). -/
def execRES_1_D (s : State) : Host.Outcome State Fault Refusal := resBit 1 .d s

/-- `RES 1,E` (R394). -/
def execRES_1_E (s : State) : Host.Outcome State Fault Refusal := resBit 1 .e s

/-- `RES 1,H` (R394). -/
def execRES_1_H (s : State) : Host.Outcome State Fault Refusal := resBit 1 .h s

/-- `RES 1,L` (R394). -/
def execRES_1_L (s : State) : Host.Outcome State Fault Refusal := resBit 1 .l s

/-- `RES 1,(HL)` (R394). -/
def execRES_1__HL (s : State) : Host.Outcome State Fault Refusal := resBit 1 .hlMem s

/-- `RES 1,A` (R394). -/
def execRES_1_A (s : State) : Host.Outcome State Fault Refusal := resBit 1 .a s

/-- `RES 2,B` (R394). -/
def execRES_2_B (s : State) : Host.Outcome State Fault Refusal := resBit 2 .b s

/-- `RES 2,C` (R394). -/
def execRES_2_C (s : State) : Host.Outcome State Fault Refusal := resBit 2 .c s

/-- `RES 2,D` (R394). -/
def execRES_2_D (s : State) : Host.Outcome State Fault Refusal := resBit 2 .d s

/-- `RES 2,E` (R394). -/
def execRES_2_E (s : State) : Host.Outcome State Fault Refusal := resBit 2 .e s

/-- `RES 2,H` (R394). -/
def execRES_2_H (s : State) : Host.Outcome State Fault Refusal := resBit 2 .h s

/-- `RES 2,L` (R394). -/
def execRES_2_L (s : State) : Host.Outcome State Fault Refusal := resBit 2 .l s

/-- `RES 2,(HL)` (R394). -/
def execRES_2__HL (s : State) : Host.Outcome State Fault Refusal := resBit 2 .hlMem s

/-- `RES 2,A` (R394). -/
def execRES_2_A (s : State) : Host.Outcome State Fault Refusal := resBit 2 .a s

/-- `RES 3,B` (R394). -/
def execRES_3_B (s : State) : Host.Outcome State Fault Refusal := resBit 3 .b s

/-- `RES 3,C` (R394). -/
def execRES_3_C (s : State) : Host.Outcome State Fault Refusal := resBit 3 .c s

/-- `RES 3,D` (R394). -/
def execRES_3_D (s : State) : Host.Outcome State Fault Refusal := resBit 3 .d s

/-- `RES 3,E` (R394). -/
def execRES_3_E (s : State) : Host.Outcome State Fault Refusal := resBit 3 .e s

/-- `RES 3,H` (R394). -/
def execRES_3_H (s : State) : Host.Outcome State Fault Refusal := resBit 3 .h s

/-- `RES 3,L` (R394). -/
def execRES_3_L (s : State) : Host.Outcome State Fault Refusal := resBit 3 .l s

/-- `RES 3,(HL)` (R394). -/
def execRES_3__HL (s : State) : Host.Outcome State Fault Refusal := resBit 3 .hlMem s

/-- `RES 3,A` (R394). -/
def execRES_3_A (s : State) : Host.Outcome State Fault Refusal := resBit 3 .a s

/-- `RES 4,B` (R394). -/
def execRES_4_B (s : State) : Host.Outcome State Fault Refusal := resBit 4 .b s

/-- `RES 4,C` (R394). -/
def execRES_4_C (s : State) : Host.Outcome State Fault Refusal := resBit 4 .c s

/-- `RES 4,D` (R394). -/
def execRES_4_D (s : State) : Host.Outcome State Fault Refusal := resBit 4 .d s

/-- `RES 4,E` (R394). -/
def execRES_4_E (s : State) : Host.Outcome State Fault Refusal := resBit 4 .e s

/-- `RES 4,H` (R394). -/
def execRES_4_H (s : State) : Host.Outcome State Fault Refusal := resBit 4 .h s

/-- `RES 4,L` (R394). -/
def execRES_4_L (s : State) : Host.Outcome State Fault Refusal := resBit 4 .l s

/-- `RES 4,(HL)` (R394). -/
def execRES_4__HL (s : State) : Host.Outcome State Fault Refusal := resBit 4 .hlMem s

/-- `RES 4,A` (R394). -/
def execRES_4_A (s : State) : Host.Outcome State Fault Refusal := resBit 4 .a s

/-- `RES 5,B` (R394). -/
def execRES_5_B (s : State) : Host.Outcome State Fault Refusal := resBit 5 .b s

/-- `RES 5,C` (R394). -/
def execRES_5_C (s : State) : Host.Outcome State Fault Refusal := resBit 5 .c s

/-- `RES 5,D` (R394). -/
def execRES_5_D (s : State) : Host.Outcome State Fault Refusal := resBit 5 .d s

/-- `RES 5,E` (R394). -/
def execRES_5_E (s : State) : Host.Outcome State Fault Refusal := resBit 5 .e s

/-- `RES 5,H` (R394). -/
def execRES_5_H (s : State) : Host.Outcome State Fault Refusal := resBit 5 .h s

/-- `RES 5,L` (R394). -/
def execRES_5_L (s : State) : Host.Outcome State Fault Refusal := resBit 5 .l s

/-- `RES 5,(HL)` (R394). -/
def execRES_5__HL (s : State) : Host.Outcome State Fault Refusal := resBit 5 .hlMem s

/-- `RES 5,A` (R394). -/
def execRES_5_A (s : State) : Host.Outcome State Fault Refusal := resBit 5 .a s

/-- `RES 6,B` (R394). -/
def execRES_6_B (s : State) : Host.Outcome State Fault Refusal := resBit 6 .b s

/-- `RES 6,C` (R394). -/
def execRES_6_C (s : State) : Host.Outcome State Fault Refusal := resBit 6 .c s

/-- `RES 6,D` (R394). -/
def execRES_6_D (s : State) : Host.Outcome State Fault Refusal := resBit 6 .d s

/-- `RES 6,E` (R394). -/
def execRES_6_E (s : State) : Host.Outcome State Fault Refusal := resBit 6 .e s

/-- `RES 6,H` (R394). -/
def execRES_6_H (s : State) : Host.Outcome State Fault Refusal := resBit 6 .h s

/-- `RES 6,L` (R394). -/
def execRES_6_L (s : State) : Host.Outcome State Fault Refusal := resBit 6 .l s

/-- `RES 6,(HL)` (R394). -/
def execRES_6__HL (s : State) : Host.Outcome State Fault Refusal := resBit 6 .hlMem s

/-- `RES 6,A` (R394). -/
def execRES_6_A (s : State) : Host.Outcome State Fault Refusal := resBit 6 .a s

/-- `RES 7,B` (R394). -/
def execRES_7_B (s : State) : Host.Outcome State Fault Refusal := resBit 7 .b s

/-- `RES 7,C` (R394). -/
def execRES_7_C (s : State) : Host.Outcome State Fault Refusal := resBit 7 .c s

/-- `RES 7,D` (R394). -/
def execRES_7_D (s : State) : Host.Outcome State Fault Refusal := resBit 7 .d s

/-- `RES 7,E` (R394). -/
def execRES_7_E (s : State) : Host.Outcome State Fault Refusal := resBit 7 .e s

/-- `RES 7,H` (R394). -/
def execRES_7_H (s : State) : Host.Outcome State Fault Refusal := resBit 7 .h s

/-- `RES 7,L` (R394). -/
def execRES_7_L (s : State) : Host.Outcome State Fault Refusal := resBit 7 .l s

/-- `RES 7,(HL)` (R394). -/
def execRES_7__HL (s : State) : Host.Outcome State Fault Refusal := resBit 7 .hlMem s

/-- `RES 7,A` (R394). -/
def execRES_7_A (s : State) : Host.Outcome State Fault Refusal := resBit 7 .a s

/-- `SET 0,B` (R395). -/
def execSET_0_B (s : State) : Host.Outcome State Fault Refusal := setBit 0 .b s

/-- `SET 0,C` (R395). -/
def execSET_0_C (s : State) : Host.Outcome State Fault Refusal := setBit 0 .c s

/-- `SET 0,D` (R395). -/
def execSET_0_D (s : State) : Host.Outcome State Fault Refusal := setBit 0 .d s

/-- `SET 0,E` (R395). -/
def execSET_0_E (s : State) : Host.Outcome State Fault Refusal := setBit 0 .e s

/-- `SET 0,H` (R395). -/
def execSET_0_H (s : State) : Host.Outcome State Fault Refusal := setBit 0 .h s

/-- `SET 0,L` (R395). -/
def execSET_0_L (s : State) : Host.Outcome State Fault Refusal := setBit 0 .l s

/-- `SET 0,(HL)` (R395). -/
def execSET_0__HL (s : State) : Host.Outcome State Fault Refusal := setBit 0 .hlMem s

/-- `SET 0,A` (R395). -/
def execSET_0_A (s : State) : Host.Outcome State Fault Refusal := setBit 0 .a s

/-- `SET 1,B` (R395). -/
def execSET_1_B (s : State) : Host.Outcome State Fault Refusal := setBit 1 .b s

/-- `SET 1,C` (R395). -/
def execSET_1_C (s : State) : Host.Outcome State Fault Refusal := setBit 1 .c s

/-- `SET 1,D` (R395). -/
def execSET_1_D (s : State) : Host.Outcome State Fault Refusal := setBit 1 .d s

/-- `SET 1,E` (R395). -/
def execSET_1_E (s : State) : Host.Outcome State Fault Refusal := setBit 1 .e s

/-- `SET 1,H` (R395). -/
def execSET_1_H (s : State) : Host.Outcome State Fault Refusal := setBit 1 .h s

/-- `SET 1,L` (R395). -/
def execSET_1_L (s : State) : Host.Outcome State Fault Refusal := setBit 1 .l s

/-- `SET 1,(HL)` (R395). -/
def execSET_1__HL (s : State) : Host.Outcome State Fault Refusal := setBit 1 .hlMem s

/-- `SET 1,A` (R395). -/
def execSET_1_A (s : State) : Host.Outcome State Fault Refusal := setBit 1 .a s

/-- `SET 2,B` (R395). -/
def execSET_2_B (s : State) : Host.Outcome State Fault Refusal := setBit 2 .b s

/-- `SET 2,C` (R395). -/
def execSET_2_C (s : State) : Host.Outcome State Fault Refusal := setBit 2 .c s

/-- `SET 2,D` (R395). -/
def execSET_2_D (s : State) : Host.Outcome State Fault Refusal := setBit 2 .d s

/-- `SET 2,E` (R395). -/
def execSET_2_E (s : State) : Host.Outcome State Fault Refusal := setBit 2 .e s

/-- `SET 2,H` (R395). -/
def execSET_2_H (s : State) : Host.Outcome State Fault Refusal := setBit 2 .h s

/-- `SET 2,L` (R395). -/
def execSET_2_L (s : State) : Host.Outcome State Fault Refusal := setBit 2 .l s

/-- `SET 2,(HL)` (R395). -/
def execSET_2__HL (s : State) : Host.Outcome State Fault Refusal := setBit 2 .hlMem s

/-- `SET 2,A` (R395). -/
def execSET_2_A (s : State) : Host.Outcome State Fault Refusal := setBit 2 .a s

/-- `SET 3,B` (R395). -/
def execSET_3_B (s : State) : Host.Outcome State Fault Refusal := setBit 3 .b s

/-- `SET 3,C` (R395). -/
def execSET_3_C (s : State) : Host.Outcome State Fault Refusal := setBit 3 .c s

/-- `SET 3,D` (R395). -/
def execSET_3_D (s : State) : Host.Outcome State Fault Refusal := setBit 3 .d s

/-- `SET 3,E` (R395). -/
def execSET_3_E (s : State) : Host.Outcome State Fault Refusal := setBit 3 .e s

/-- `SET 3,H` (R395). -/
def execSET_3_H (s : State) : Host.Outcome State Fault Refusal := setBit 3 .h s

/-- `SET 3,L` (R395). -/
def execSET_3_L (s : State) : Host.Outcome State Fault Refusal := setBit 3 .l s

/-- `SET 3,(HL)` (R395). -/
def execSET_3__HL (s : State) : Host.Outcome State Fault Refusal := setBit 3 .hlMem s

/-- `SET 3,A` (R395). -/
def execSET_3_A (s : State) : Host.Outcome State Fault Refusal := setBit 3 .a s

/-- `SET 4,B` (R395). -/
def execSET_4_B (s : State) : Host.Outcome State Fault Refusal := setBit 4 .b s

/-- `SET 4,C` (R395). -/
def execSET_4_C (s : State) : Host.Outcome State Fault Refusal := setBit 4 .c s

/-- `SET 4,D` (R395). -/
def execSET_4_D (s : State) : Host.Outcome State Fault Refusal := setBit 4 .d s

/-- `SET 4,E` (R395). -/
def execSET_4_E (s : State) : Host.Outcome State Fault Refusal := setBit 4 .e s

/-- `SET 4,H` (R395). -/
def execSET_4_H (s : State) : Host.Outcome State Fault Refusal := setBit 4 .h s

/-- `SET 4,L` (R395). -/
def execSET_4_L (s : State) : Host.Outcome State Fault Refusal := setBit 4 .l s

/-- `SET 4,(HL)` (R395). -/
def execSET_4__HL (s : State) : Host.Outcome State Fault Refusal := setBit 4 .hlMem s

/-- `SET 4,A` (R395). -/
def execSET_4_A (s : State) : Host.Outcome State Fault Refusal := setBit 4 .a s

/-- `SET 5,B` (R395). -/
def execSET_5_B (s : State) : Host.Outcome State Fault Refusal := setBit 5 .b s

/-- `SET 5,C` (R395). -/
def execSET_5_C (s : State) : Host.Outcome State Fault Refusal := setBit 5 .c s

/-- `SET 5,D` (R395). -/
def execSET_5_D (s : State) : Host.Outcome State Fault Refusal := setBit 5 .d s

/-- `SET 5,E` (R395). -/
def execSET_5_E (s : State) : Host.Outcome State Fault Refusal := setBit 5 .e s

/-- `SET 5,H` (R395). -/
def execSET_5_H (s : State) : Host.Outcome State Fault Refusal := setBit 5 .h s

/-- `SET 5,L` (R395). -/
def execSET_5_L (s : State) : Host.Outcome State Fault Refusal := setBit 5 .l s

/-- `SET 5,(HL)` (R395). -/
def execSET_5__HL (s : State) : Host.Outcome State Fault Refusal := setBit 5 .hlMem s

/-- `SET 5,A` (R395). -/
def execSET_5_A (s : State) : Host.Outcome State Fault Refusal := setBit 5 .a s

/-- `SET 6,B` (R395). -/
def execSET_6_B (s : State) : Host.Outcome State Fault Refusal := setBit 6 .b s

/-- `SET 6,C` (R395). -/
def execSET_6_C (s : State) : Host.Outcome State Fault Refusal := setBit 6 .c s

/-- `SET 6,D` (R395). -/
def execSET_6_D (s : State) : Host.Outcome State Fault Refusal := setBit 6 .d s

/-- `SET 6,E` (R395). -/
def execSET_6_E (s : State) : Host.Outcome State Fault Refusal := setBit 6 .e s

/-- `SET 6,H` (R395). -/
def execSET_6_H (s : State) : Host.Outcome State Fault Refusal := setBit 6 .h s

/-- `SET 6,L` (R395). -/
def execSET_6_L (s : State) : Host.Outcome State Fault Refusal := setBit 6 .l s

/-- `SET 6,(HL)` (R395). -/
def execSET_6__HL (s : State) : Host.Outcome State Fault Refusal := setBit 6 .hlMem s

/-- `SET 6,A` (R395). -/
def execSET_6_A (s : State) : Host.Outcome State Fault Refusal := setBit 6 .a s

/-- `SET 7,B` (R395). -/
def execSET_7_B (s : State) : Host.Outcome State Fault Refusal := setBit 7 .b s

/-- `SET 7,C` (R395). -/
def execSET_7_C (s : State) : Host.Outcome State Fault Refusal := setBit 7 .c s

/-- `SET 7,D` (R395). -/
def execSET_7_D (s : State) : Host.Outcome State Fault Refusal := setBit 7 .d s

/-- `SET 7,E` (R395). -/
def execSET_7_E (s : State) : Host.Outcome State Fault Refusal := setBit 7 .e s

/-- `SET 7,H` (R395). -/
def execSET_7_H (s : State) : Host.Outcome State Fault Refusal := setBit 7 .h s

/-- `SET 7,L` (R395). -/
def execSET_7_L (s : State) : Host.Outcome State Fault Refusal := setBit 7 .l s

/-- `SET 7,(HL)` (R395). -/
def execSET_7__HL (s : State) : Host.Outcome State Fault Refusal := setBit 7 .hlMem s

/-- `SET 7,A` (R395). -/
def execSET_7_A (s : State) : Host.Outcome State Fault Refusal := setBit 7 .a s

end Sys2Proof.Machine
end

