-- ==== Sys2Proof/Machine/Control.lean ====
section
/-! DEFINITION. The meanings of the control transfers (spec/45_control.md): the shared operations, then one meaning per instruction of
spec/opcode_table.json, named `exec` and its constructor. On entry PC is past the whole instruction (R34). -/

namespace Sys2Proof.Machine

/-- `JP a16` (R401). -/
def jump (a : Word) (s : State) : Out State := .next ((s.setPc a).setCost 16)

/-- `JP cc,a16` (R402). -/
def jumpIf (cc : Cond) (a : Word) (s : State) : Out State :=
  if condHolds cc s then .next ((s.setPc a).setCost 16) else .next (s.setCost 12)

/-- `JP HL` (R403). -/
def jumpHl (s : State) : Out State := .next ((s.setPc s.hl).setCost 4)

/-- `JR e8` (R404): PC is already past the instruction. -/
def jumpRel (e : Byte) (s : State) : Out State := .next ((s.setPc (s.cpu.pc + sext16 e)).setCost 12)

/-- `JR cc,e8` (R405). -/
def jumpRelIf (cc : Cond) (e : Byte) (s : State) : Out State :=
  if condHolds cc s then .next ((s.setPc (s.cpu.pc + sext16 e)).setCost 12) else .next (s.setCost 8)

/-- A push of the return address and a transfer, at a cost (R406, R407, R412). -/
def callTo (a : Word) (cost : Nat) (s : State) : Out State :=
  andThen (push16 s.cpu.pc s) fun t => .next ((t.setPc a).setCost cost)

/-- `CALL a16` (R406). -/
def call (a : Word) (s : State) : Out State := callTo a 24 s

/-- `CALL cc,a16` (R407). -/
def callIf (cc : Cond) (a : Word) (s : State) : Out State :=
  if condHolds cc s then callTo a 24 s else .next (s.setCost 12)

/-- A pop of PC, at a cost (R408, R409). -/
def returnTo (cost : Nat) (s : State) : Out State :=
  andThen (pop16 s) fun x => .next ((x.2.setPc x.1).setCost cost)

/-- `RET` (R408). -/
def returnCall (s : State) : Out State := returnTo 16 s

/-- `RET cc` (R409). -/
def returnIf (cc : Cond) (s : State) : Out State :=
  if condHolds cc s then returnTo 20 s else .next (s.setCost 8)

/-- `RETI` (R411). -/
def returnEnable (s : State) : Out State := andThen (returnFromInterrupt s) fun t => .next (t.setCost 16)

/-- `RST n*8` (R412). -/
def restart (n : BitVec 3) (s : State) : Out State := callTo (BitVec.ofNat 16 (8 * n.toNat)) 16 s

/-- `JR e8` (R404). -/
def execJR_e8 (e : Byte) (s : State) : Host.Outcome State Fault Refusal := jumpRel e s

/-- `JR NZ,e8` (R405). -/
def execJR_NZ_e8 (e : Byte) (s : State) : Host.Outcome State Fault Refusal := jumpRelIf .nz e s

/-- `JR Z,e8` (R405). -/
def execJR_Z_e8 (e : Byte) (s : State) : Host.Outcome State Fault Refusal := jumpRelIf .z e s

/-- `JR NC,e8` (R405). -/
def execJR_NC_e8 (e : Byte) (s : State) : Host.Outcome State Fault Refusal := jumpRelIf .nc e s

/-- `JR C,e8` (R405). -/
def execJR_C_e8 (e : Byte) (s : State) : Host.Outcome State Fault Refusal := jumpRelIf .c e s

/-- `RET NZ` (R409). -/
def execRET_NZ (s : State) : Host.Outcome State Fault Refusal := returnIf .nz s

/-- `JP NZ,a16` (R402). -/
def execJP_NZ_a16 (a : Word) (s : State) : Host.Outcome State Fault Refusal := jumpIf .nz a s

/-- `JP a16` (R401). -/
def execJP_a16 (a : Word) (s : State) : Host.Outcome State Fault Refusal := jump a s

/-- `CALL NZ,a16` (R407). -/
def execCALL_NZ_a16 (a : Word) (s : State) : Host.Outcome State Fault Refusal := callIf .nz a s

/-- `RST 0x00` (R412). -/
def execRST_0x00 (s : State) : Host.Outcome State Fault Refusal := restart 0 s

/-- `RET Z` (R409). -/
def execRET_Z (s : State) : Host.Outcome State Fault Refusal := returnIf .z s

/-- `RET` (R408). -/
def execRET (s : State) : Host.Outcome State Fault Refusal := returnCall s

/-- `JP Z,a16` (R402). -/
def execJP_Z_a16 (a : Word) (s : State) : Host.Outcome State Fault Refusal := jumpIf .z a s

/-- `CALL Z,a16` (R407). -/
def execCALL_Z_a16 (a : Word) (s : State) : Host.Outcome State Fault Refusal := callIf .z a s

/-- `CALL a16` (R406). -/
def execCALL_a16 (a : Word) (s : State) : Host.Outcome State Fault Refusal := call a s

/-- `RST 0x08` (R412). -/
def execRST_0x08 (s : State) : Host.Outcome State Fault Refusal := restart 1 s

/-- `RET NC` (R409). -/
def execRET_NC (s : State) : Host.Outcome State Fault Refusal := returnIf .nc s

/-- `JP NC,a16` (R402). -/
def execJP_NC_a16 (a : Word) (s : State) : Host.Outcome State Fault Refusal := jumpIf .nc a s

/-- `CALL NC,a16` (R407). -/
def execCALL_NC_a16 (a : Word) (s : State) : Host.Outcome State Fault Refusal := callIf .nc a s

/-- `RST 0x10` (R412). -/
def execRST_0x10 (s : State) : Host.Outcome State Fault Refusal := restart 2 s

/-- `RET C` (R409). -/
def execRET_C (s : State) : Host.Outcome State Fault Refusal := returnIf .c s

/-- `RETI` (R411). -/
def execRETI (s : State) : Host.Outcome State Fault Refusal := returnEnable s

/-- `JP C,a16` (R402). -/
def execJP_C_a16 (a : Word) (s : State) : Host.Outcome State Fault Refusal := jumpIf .c a s

/-- `CALL C,a16` (R407). -/
def execCALL_C_a16 (a : Word) (s : State) : Host.Outcome State Fault Refusal := callIf .c a s

/-- `RST 0x18` (R412). -/
def execRST_0x18 (s : State) : Host.Outcome State Fault Refusal := restart 3 s

/-- `RST 0x20` (R412). -/
def execRST_0x20 (s : State) : Host.Outcome State Fault Refusal := restart 4 s

/-- `JP HL` (R403). -/
def execJP_HL (s : State) : Host.Outcome State Fault Refusal := jumpHl s

/-- `RST 0x28` (R412). -/
def execRST_0x28 (s : State) : Host.Outcome State Fault Refusal := restart 5 s

/-- `RST 0x30` (R412). -/
def execRST_0x30 (s : State) : Host.Outcome State Fault Refusal := restart 6 s

/-- `RST 0x38` (R412). -/
def execRST_0x38 (s : State) : Host.Outcome State Fault Refusal := restart 7 s

end Sys2Proof.Machine
end

