-- ==== Sys2Proof/Machine/Loads16.lean ====
section
/-! DEFINITION. The meanings of the 16-bit loads and stack transfers (spec/41_loads16.md): the shared operations, then one meaning per instruction of
spec/opcode_table.json, named `exec` and its constructor. On entry PC is past the whole instruction (R34). -/

namespace Sys2Proof.Machine

/-- `LD rr,d16` (R320). -/
def loadR16 (r : R16) (d : Word) (s : State) : Out State := .next ((s.setR16 r d).setCost 12)

/-- `LD (a16),SP` (R321): the low byte first; the second address wraps. -/
def storeSp (a : Word) (s : State) : Out State :=
  andThen (memWrite s a (loByte s.cpu.sp)) fun t =>
    andThen (memWrite t (a + 1) (hiByte t.cpu.sp)) fun u => .next (u.setCost 20)

/-- `LD SP,HL` (R322). -/
def loadSpHl (s : State) : Out State := .next ((s.setSp s.hl).setCost 8)

/-- `LD HL,SP+e8` (R323). -/
def loadHlSp (e : Byte) (s : State) : Out State :=
  .next (((s.setR16 .hl (s.cpu.sp + sext16 e)).putFlags (spOffsetFlags s.cpu.sp e)).setCost 12)

/-- `PUSH rr` (R324). -/
def pushPair (r : R16Stk) (s : State) : Out State :=
  andThen (push16 (s.r16stk r) s) fun t => .next (t.setCost 16)

/-- `POP rr` (R325); `POP AF` masks the low nibble of F (R327). -/
def popPair (r : R16Stk) (s : State) : Out State :=
  andThen (pop16 s) fun x => .next ((x.2.setR16stk r x.1).setCost 12)

/-- `LD BC,d16` (R320). -/
def execLD_BC_d16 (d : Word) (s : State) : Host.Outcome State Fault Refusal := loadR16 .bc d s

/-- `LD (a16),SP` (R321). -/
def execLD__a16__SP (a : Word) (s : State) : Host.Outcome State Fault Refusal := storeSp a s

/-- `LD DE,d16` (R320). -/
def execLD_DE_d16 (d : Word) (s : State) : Host.Outcome State Fault Refusal := loadR16 .de d s

/-- `LD HL,d16` (R320). -/
def execLD_HL_d16 (d : Word) (s : State) : Host.Outcome State Fault Refusal := loadR16 .hl d s

/-- `LD SP,d16` (R320). -/
def execLD_SP_d16 (d : Word) (s : State) : Host.Outcome State Fault Refusal := loadR16 .sp d s

/-- `POP BC` (R325). -/
def execPOP_BC (s : State) : Host.Outcome State Fault Refusal := popPair .bc s

/-- `PUSH BC` (R324). -/
def execPUSH_BC (s : State) : Host.Outcome State Fault Refusal := pushPair .bc s

/-- `POP DE` (R325). -/
def execPOP_DE (s : State) : Host.Outcome State Fault Refusal := popPair .de s

/-- `PUSH DE` (R324). -/
def execPUSH_DE (s : State) : Host.Outcome State Fault Refusal := pushPair .de s

/-- `POP HL` (R325). -/
def execPOP_HL (s : State) : Host.Outcome State Fault Refusal := popPair .hl s

/-- `PUSH HL` (R324). -/
def execPUSH_HL (s : State) : Host.Outcome State Fault Refusal := pushPair .hl s

/-- `POP AF` (R327). -/
def execPOP_AF (s : State) : Host.Outcome State Fault Refusal := popPair .af s

/-- `PUSH AF` (R324). -/
def execPUSH_AF (s : State) : Host.Outcome State Fault Refusal := pushPair .af s

/-- `LD HL,SP+e8` (R323). -/
def execLD_HL_SPplus_e8 (e : Byte) (s : State) : Host.Outcome State Fault Refusal := loadHlSp e s

/-- `LD SP,HL` (R322). -/
def execLD_SP_HL (s : State) : Host.Outcome State Fault Refusal := loadSpHl s

end Sys2Proof.Machine
end

