-- ==== Sys2Proof/Machine/Loads8.lean ====
section
/-! DEFINITION. The meanings of the 8-bit loads (spec/40_loads8.md): the shared operations, then one meaning per instruction of
spec/opcode_table.json, named `exec` and its constructor. On entry PC is past the whole instruction (R34). -/

namespace Sys2Proof.Machine

/-- `LD` between 8-bit operands (R301, R303, R304). -/
def loadR8 (dst src : R8) (s : State) : Out State :=
  andThen (readR8 src s) fun v =>
    andThen (writeR8 dst v s) fun t => .next (t.setCost (max (r8Cost src 4 8) (r8Cost dst 4 8)))

/-- `LD` of an immediate byte (R302, R305). -/
def loadR8Imm (dst : R8) (d : Byte) (s : State) : Out State :=
  andThen (writeR8 dst d s) fun t => .next (t.setCost (r8Cost dst 8 12))

/-- A load of A through an indirect pair, which is then updated (R306, R308, R309). -/
def loadInd (m : R16Mem) (s : State) : Out State :=
  andThen (memRead s (indAddr m s)) fun v => .next ((indAfter m (s.setReg .a v)).setCost 8)

/-- A store of A through an indirect pair, which is then updated (R307, R310, R311). -/
def storeInd (m : R16Mem) (s : State) : Out State :=
  andThen (memWrite s (indAddr m s) s.cpu.a) fun t => .next ((indAfter m t).setCost 8)

/-- A load of A from an address, at a cost (R312, R314, R316). -/
def loadA (addr : Word) (cost : Nat) (s : State) : Out State :=
  andThen (memRead s addr) fun v => .next ((s.setReg .a v).setCost cost)

/-- A store of A to an address, at a cost (R313, R315, R317). -/
def storeA (addr : Word) (cost : Nat) (s : State) : Out State :=
  andThen (memWrite s addr s.cpu.a) fun t => .next (t.setCost cost)

/-- `LD A,(a16)` (R312). -/
def loadAbs (a : Word) (s : State) : Out State := loadA a 16 s

/-- `LD (a16),A` (R313). -/
def storeAbs (a : Word) (s : State) : Out State := storeA a 16 s

/-- `LDH A,(a8)` (R314). -/
def loadHigh (a : Byte) (s : State) : Out State := loadA (highPage a) 12 s

/-- `LDH (a8),A` (R315). -/
def storeHigh (a : Byte) (s : State) : Out State := storeA (highPage a) 12 s

/-- `LD A,(C)` (R316). -/
def loadHighC (s : State) : Out State := loadA (highPage s.cpu.c) 8 s

/-- `LD (C),A` (R317). -/
def storeHighC (s : State) : Out State := storeA (highPage s.cpu.c) 8 s

/-- `LD (BC),A` (R307). -/
def execLD__BC__A (s : State) : Host.Outcome State Fault Refusal := storeInd .bc s

/-- `LD B,d8` (R302). -/
def execLD_B_d8 (d : Byte) (s : State) : Host.Outcome State Fault Refusal := loadR8Imm .b d s

/-- `LD A,(BC)` (R306). -/
def execLD_A__BC (s : State) : Host.Outcome State Fault Refusal := loadInd .bc s

/-- `LD C,d8` (R302). -/
def execLD_C_d8 (d : Byte) (s : State) : Host.Outcome State Fault Refusal := loadR8Imm .c d s

/-- `LD (DE),A` (R307). -/
def execLD__DE__A (s : State) : Host.Outcome State Fault Refusal := storeInd .de s

/-- `LD D,d8` (R302). -/
def execLD_D_d8 (d : Byte) (s : State) : Host.Outcome State Fault Refusal := loadR8Imm .d d s

/-- `LD A,(DE)` (R306). -/
def execLD_A__DE (s : State) : Host.Outcome State Fault Refusal := loadInd .de s

/-- `LD E,d8` (R302). -/
def execLD_E_d8 (d : Byte) (s : State) : Host.Outcome State Fault Refusal := loadR8Imm .e d s

/-- `LD (HL+),A` (R310). -/
def execLD__HLinc__A (s : State) : Host.Outcome State Fault Refusal := storeInd .hlInc s

/-- `LD H,d8` (R302). -/
def execLD_H_d8 (d : Byte) (s : State) : Host.Outcome State Fault Refusal := loadR8Imm .h d s

/-- `LD A,(HL+)` (R308). -/
def execLD_A__HLinc (s : State) : Host.Outcome State Fault Refusal := loadInd .hlInc s

/-- `LD L,d8` (R302). -/
def execLD_L_d8 (d : Byte) (s : State) : Host.Outcome State Fault Refusal := loadR8Imm .l d s

/-- `LD (HL-),A` (R311). -/
def execLD__HLdec__A (s : State) : Host.Outcome State Fault Refusal := storeInd .hlDec s

/-- `LD (HL),d8` (R305). -/
def execLD__HL__d8 (d : Byte) (s : State) : Host.Outcome State Fault Refusal := loadR8Imm .hlMem d s

/-- `LD A,(HL-)` (R309). -/
def execLD_A__HLdec (s : State) : Host.Outcome State Fault Refusal := loadInd .hlDec s

/-- `LD A,d8` (R302). -/
def execLD_A_d8 (d : Byte) (s : State) : Host.Outcome State Fault Refusal := loadR8Imm .a d s

/-- `LD B,B` (R301). -/
def execLD_B_B (s : State) : Host.Outcome State Fault Refusal := loadR8 .b .b s

/-- `LD B,C` (R301). -/
def execLD_B_C (s : State) : Host.Outcome State Fault Refusal := loadR8 .b .c s

/-- `LD B,D` (R301). -/
def execLD_B_D (s : State) : Host.Outcome State Fault Refusal := loadR8 .b .d s

/-- `LD B,E` (R301). -/
def execLD_B_E (s : State) : Host.Outcome State Fault Refusal := loadR8 .b .e s

/-- `LD B,H` (R301). -/
def execLD_B_H (s : State) : Host.Outcome State Fault Refusal := loadR8 .b .h s

/-- `LD B,L` (R301). -/
def execLD_B_L (s : State) : Host.Outcome State Fault Refusal := loadR8 .b .l s

/-- `LD B,(HL)` (R303). -/
def execLD_B__HL (s : State) : Host.Outcome State Fault Refusal := loadR8 .b .hlMem s

/-- `LD B,A` (R301). -/
def execLD_B_A (s : State) : Host.Outcome State Fault Refusal := loadR8 .b .a s

/-- `LD C,B` (R301). -/
def execLD_C_B (s : State) : Host.Outcome State Fault Refusal := loadR8 .c .b s

/-- `LD C,C` (R301). -/
def execLD_C_C (s : State) : Host.Outcome State Fault Refusal := loadR8 .c .c s

/-- `LD C,D` (R301). -/
def execLD_C_D (s : State) : Host.Outcome State Fault Refusal := loadR8 .c .d s

/-- `LD C,E` (R301). -/
def execLD_C_E (s : State) : Host.Outcome State Fault Refusal := loadR8 .c .e s

/-- `LD C,H` (R301). -/
def execLD_C_H (s : State) : Host.Outcome State Fault Refusal := loadR8 .c .h s

/-- `LD C,L` (R301). -/
def execLD_C_L (s : State) : Host.Outcome State Fault Refusal := loadR8 .c .l s

/-- `LD C,(HL)` (R303). -/
def execLD_C__HL (s : State) : Host.Outcome State Fault Refusal := loadR8 .c .hlMem s

/-- `LD C,A` (R301). -/
def execLD_C_A (s : State) : Host.Outcome State Fault Refusal := loadR8 .c .a s

/-- `LD D,B` (R301). -/
def execLD_D_B (s : State) : Host.Outcome State Fault Refusal := loadR8 .d .b s

/-- `LD D,C` (R301). -/
def execLD_D_C (s : State) : Host.Outcome State Fault Refusal := loadR8 .d .c s

/-- `LD D,D` (R301). -/
def execLD_D_D (s : State) : Host.Outcome State Fault Refusal := loadR8 .d .d s

/-- `LD D,E` (R301). -/
def execLD_D_E (s : State) : Host.Outcome State Fault Refusal := loadR8 .d .e s

/-- `LD D,H` (R301). -/
def execLD_D_H (s : State) : Host.Outcome State Fault Refusal := loadR8 .d .h s

/-- `LD D,L` (R301). -/
def execLD_D_L (s : State) : Host.Outcome State Fault Refusal := loadR8 .d .l s

/-- `LD D,(HL)` (R303). -/
def execLD_D__HL (s : State) : Host.Outcome State Fault Refusal := loadR8 .d .hlMem s

/-- `LD D,A` (R301). -/
def execLD_D_A (s : State) : Host.Outcome State Fault Refusal := loadR8 .d .a s

/-- `LD E,B` (R301). -/
def execLD_E_B (s : State) : Host.Outcome State Fault Refusal := loadR8 .e .b s

/-- `LD E,C` (R301). -/
def execLD_E_C (s : State) : Host.Outcome State Fault Refusal := loadR8 .e .c s

/-- `LD E,D` (R301). -/
def execLD_E_D (s : State) : Host.Outcome State Fault Refusal := loadR8 .e .d s

/-- `LD E,E` (R301). -/
def execLD_E_E (s : State) : Host.Outcome State Fault Refusal := loadR8 .e .e s

/-- `LD E,H` (R301). -/
def execLD_E_H (s : State) : Host.Outcome State Fault Refusal := loadR8 .e .h s

/-- `LD E,L` (R301). -/
def execLD_E_L (s : State) : Host.Outcome State Fault Refusal := loadR8 .e .l s

/-- `LD E,(HL)` (R303). -/
def execLD_E__HL (s : State) : Host.Outcome State Fault Refusal := loadR8 .e .hlMem s

/-- `LD E,A` (R301). -/
def execLD_E_A (s : State) : Host.Outcome State Fault Refusal := loadR8 .e .a s

/-- `LD H,B` (R301). -/
def execLD_H_B (s : State) : Host.Outcome State Fault Refusal := loadR8 .h .b s

/-- `LD H,C` (R301). -/
def execLD_H_C (s : State) : Host.Outcome State Fault Refusal := loadR8 .h .c s

/-- `LD H,D` (R301). -/
def execLD_H_D (s : State) : Host.Outcome State Fault Refusal := loadR8 .h .d s

/-- `LD H,E` (R301). -/
def execLD_H_E (s : State) : Host.Outcome State Fault Refusal := loadR8 .h .e s

/-- `LD H,H` (R301). -/
def execLD_H_H (s : State) : Host.Outcome State Fault Refusal := loadR8 .h .h s

/-- `LD H,L` (R301). -/
def execLD_H_L (s : State) : Host.Outcome State Fault Refusal := loadR8 .h .l s

/-- `LD H,(HL)` (R303). -/
def execLD_H__HL (s : State) : Host.Outcome State Fault Refusal := loadR8 .h .hlMem s

/-- `LD H,A` (R301). -/
def execLD_H_A (s : State) : Host.Outcome State Fault Refusal := loadR8 .h .a s

/-- `LD L,B` (R301). -/
def execLD_L_B (s : State) : Host.Outcome State Fault Refusal := loadR8 .l .b s

/-- `LD L,C` (R301). -/
def execLD_L_C (s : State) : Host.Outcome State Fault Refusal := loadR8 .l .c s

/-- `LD L,D` (R301). -/
def execLD_L_D (s : State) : Host.Outcome State Fault Refusal := loadR8 .l .d s

/-- `LD L,E` (R301). -/
def execLD_L_E (s : State) : Host.Outcome State Fault Refusal := loadR8 .l .e s

/-- `LD L,H` (R301). -/
def execLD_L_H (s : State) : Host.Outcome State Fault Refusal := loadR8 .l .h s

/-- `LD L,L` (R301). -/
def execLD_L_L (s : State) : Host.Outcome State Fault Refusal := loadR8 .l .l s

/-- `LD L,(HL)` (R303). -/
def execLD_L__HL (s : State) : Host.Outcome State Fault Refusal := loadR8 .l .hlMem s

/-- `LD L,A` (R301). -/
def execLD_L_A (s : State) : Host.Outcome State Fault Refusal := loadR8 .l .a s

/-- `LD (HL),B` (R304). -/
def execLD__HL__B (s : State) : Host.Outcome State Fault Refusal := loadR8 .hlMem .b s

/-- `LD (HL),C` (R304). -/
def execLD__HL__C (s : State) : Host.Outcome State Fault Refusal := loadR8 .hlMem .c s

/-- `LD (HL),D` (R304). -/
def execLD__HL__D (s : State) : Host.Outcome State Fault Refusal := loadR8 .hlMem .d s

/-- `LD (HL),E` (R304). -/
def execLD__HL__E (s : State) : Host.Outcome State Fault Refusal := loadR8 .hlMem .e s

/-- `LD (HL),H` (R304). -/
def execLD__HL__H (s : State) : Host.Outcome State Fault Refusal := loadR8 .hlMem .h s

/-- `LD (HL),L` (R304). -/
def execLD__HL__L (s : State) : Host.Outcome State Fault Refusal := loadR8 .hlMem .l s

/-- `LD (HL),A` (R304). -/
def execLD__HL__A (s : State) : Host.Outcome State Fault Refusal := loadR8 .hlMem .a s

/-- `LD A,B` (R301). -/
def execLD_A_B (s : State) : Host.Outcome State Fault Refusal := loadR8 .a .b s

/-- `LD A,C` (R301). -/
def execLD_A_C (s : State) : Host.Outcome State Fault Refusal := loadR8 .a .c s

/-- `LD A,D` (R301). -/
def execLD_A_D (s : State) : Host.Outcome State Fault Refusal := loadR8 .a .d s

/-- `LD A,E` (R301). -/
def execLD_A_E (s : State) : Host.Outcome State Fault Refusal := loadR8 .a .e s

/-- `LD A,H` (R301). -/
def execLD_A_H (s : State) : Host.Outcome State Fault Refusal := loadR8 .a .h s

/-- `LD A,L` (R301). -/
def execLD_A_L (s : State) : Host.Outcome State Fault Refusal := loadR8 .a .l s

/-- `LD A,(HL)` (R303). -/
def execLD_A__HL (s : State) : Host.Outcome State Fault Refusal := loadR8 .a .hlMem s

/-- `LD A,A` (R301). -/
def execLD_A_A (s : State) : Host.Outcome State Fault Refusal := loadR8 .a .a s

/-- `LDH (a8),A` (R315). -/
def execLDH__a8__A (a : Byte) (s : State) : Host.Outcome State Fault Refusal := storeHigh a s

/-- `LD (C),A` (R317). -/
def execLD__C__A (s : State) : Host.Outcome State Fault Refusal := storeHighC s

/-- `LD (a16),A` (R313). -/
def execLD__a16__A (a : Word) (s : State) : Host.Outcome State Fault Refusal := storeAbs a s

/-- `LDH A,(a8)` (R314). -/
def execLDH_A__a8 (a : Byte) (s : State) : Host.Outcome State Fault Refusal := loadHigh a s

/-- `LD A,(C)` (R316). -/
def execLD_A__C (s : State) : Host.Outcome State Fault Refusal := loadHighC s

/-- `LD A,(a16)` (R312). -/
def execLD_A__a16 (a : Word) (s : State) : Host.Outcome State Fault Refusal := loadAbs a s

end Sys2Proof.Machine
end

