-- ==== Sys2Proof/Machine/System.lean ====
section
/-! DEFINITION. The meanings of the system instructions (spec/46_system.md): the shared operations, then one meaning per instruction of
spec/opcode_table.json, named `exec` and its constructor. On entry PC is past the whole instruction (R34). -/

namespace Sys2Proof.Machine

/-- `NOP` (R420). -/
def noOperation (s : State) : Out State := .next (s.setCost 4)

/-- `HALT` (R422). -/
def haltCpu (s : State) : Out State := .next ((s.setHalted true).setCost 4)

/-- `STOP` with second byte `b` (R423, 30_encoding.md R215). -/
def speedSwitch (b : Byte) (s : State) : Out State :=
  if b ≠ 0 then stopWith (.illegalOpcode 0x10) s
  else if s.cgb && s.cpu.key1Armed then
    .next ({ s with cpu := { s.cpu with doubleSpeed := !s.cpu.doubleSpeed, key1Armed := false } }.setCost 4)
  else stopWith .stopNotArmed s

/-- `EI` (R424). -/
def enableInterrupts (s : State) : Out State := .next ((s.defer .setIME).setCost 4)

/-- `DI` (R425). -/
def disableInterrupts (s : State) : Out State := .next ((s.defer .clearIME).setCost 4)

/-- An illegal opcode (R426). -/
def illegalOpcode (op : Byte) (s : State) : Out State := stopWith (.illegalOpcode op) s

/-- `NOP` (R420). -/
def execNOP (s : State) : Host.Outcome State Fault Refusal := noOperation s

/-- `HALT` (R422). -/
def execHALT (s : State) : Host.Outcome State Fault Refusal := haltCpu s

/-- `ILLEGAL 0xD3` (R426). -/
def execILLEGAL_0xD3 (s : State) : Host.Outcome State Fault Refusal := illegalOpcode 0xd3 s

/-- `ILLEGAL 0xDB` (R426). -/
def execILLEGAL_0xDB (s : State) : Host.Outcome State Fault Refusal := illegalOpcode 0xdb s

/-- `ILLEGAL 0xDD` (R426). -/
def execILLEGAL_0xDD (s : State) : Host.Outcome State Fault Refusal := illegalOpcode 0xdd s

/-- `ILLEGAL 0xE3` (R426). -/
def execILLEGAL_0xE3 (s : State) : Host.Outcome State Fault Refusal := illegalOpcode 0xe3 s

/-- `ILLEGAL 0xE4` (R426). -/
def execILLEGAL_0xE4 (s : State) : Host.Outcome State Fault Refusal := illegalOpcode 0xe4 s

/-- `ILLEGAL 0xEB` (R426). -/
def execILLEGAL_0xEB (s : State) : Host.Outcome State Fault Refusal := illegalOpcode 0xeb s

/-- `ILLEGAL 0xEC` (R426). -/
def execILLEGAL_0xEC (s : State) : Host.Outcome State Fault Refusal := illegalOpcode 0xec s

/-- `ILLEGAL 0xED` (R426). -/
def execILLEGAL_0xED (s : State) : Host.Outcome State Fault Refusal := illegalOpcode 0xed s

/-- `DI` (R425). -/
def execDI (s : State) : Host.Outcome State Fault Refusal := disableInterrupts s

/-- `ILLEGAL 0xF4` (R426). -/
def execILLEGAL_0xF4 (s : State) : Host.Outcome State Fault Refusal := illegalOpcode 0xf4 s

/-- `EI` (R424). -/
def execEI (s : State) : Host.Outcome State Fault Refusal := enableInterrupts s

/-- `ILLEGAL 0xFC` (R426). -/
def execILLEGAL_0xFC (s : State) : Host.Outcome State Fault Refusal := illegalOpcode 0xfc s

/-- `ILLEGAL 0xFD` (R426). -/
def execILLEGAL_0xFD (s : State) : Host.Outcome State Fault Refusal := illegalOpcode 0xfd s

/-- `STOP` (R423). -/
def execSTOP (b : Byte) (s : State) : Host.Outcome State Fault Refusal := speedSwitch b s

end Sys2Proof.Machine
end

