-- ==== Sys2Proof/Machine/Dispatch.lean ====
section
/-! DEFINITION. `exec`: one arm per instruction, each a direct call of its meaning. -/

namespace Sys2Proof.Machine

def exec (i : Instr) (s : State) : Host.Outcome State Fault Refusal :=
  match i with
  | .NOP => Sys2Proof.Machine.execNOP s
  | .LD_BC_d16 d => Sys2Proof.Machine.execLD_BC_d16 d s
  | .LD__BC__A => Sys2Proof.Machine.execLD__BC__A s
  | .INC_BC => Sys2Proof.Machine.execINC_BC s
  | .INC_B => Sys2Proof.Machine.execINC_B s
  | .DEC_B => Sys2Proof.Machine.execDEC_B s
  | .LD_B_d8 d => Sys2Proof.Machine.execLD_B_d8 d s
  | .RLCA => Sys2Proof.Machine.execRLCA s
  | .LD__a16__SP a => Sys2Proof.Machine.execLD__a16__SP a s
  | .ADD_HL_BC => Sys2Proof.Machine.execADD_HL_BC s
  | .LD_A__BC => Sys2Proof.Machine.execLD_A__BC s
  | .DEC_BC => Sys2Proof.Machine.execDEC_BC s
  | .INC_C => Sys2Proof.Machine.execINC_C s
  | .DEC_C => Sys2Proof.Machine.execDEC_C s
  | .LD_C_d8 d => Sys2Proof.Machine.execLD_C_d8 d s
  | .RRCA => Sys2Proof.Machine.execRRCA s
  | .LD_DE_d16 d => Sys2Proof.Machine.execLD_DE_d16 d s
  | .LD__DE__A => Sys2Proof.Machine.execLD__DE__A s
  | .INC_DE => Sys2Proof.Machine.execINC_DE s
  | .INC_D => Sys2Proof.Machine.execINC_D s
  | .DEC_D => Sys2Proof.Machine.execDEC_D s
  | .LD_D_d8 d => Sys2Proof.Machine.execLD_D_d8 d s
  | .RLA => Sys2Proof.Machine.execRLA s
  | .JR_e8 e => Sys2Proof.Machine.execJR_e8 e s
  | .ADD_HL_DE => Sys2Proof.Machine.execADD_HL_DE s
  | .LD_A__DE => Sys2Proof.Machine.execLD_A__DE s
  | .DEC_DE => Sys2Proof.Machine.execDEC_DE s
  | .INC_E => Sys2Proof.Machine.execINC_E s
  | .DEC_E => Sys2Proof.Machine.execDEC_E s
  | .LD_E_d8 d => Sys2Proof.Machine.execLD_E_d8 d s
  | .RRA => Sys2Proof.Machine.execRRA s
  | .JR_NZ_e8 e => Sys2Proof.Machine.execJR_NZ_e8 e s
  | .LD_HL_d16 d => Sys2Proof.Machine.execLD_HL_d16 d s
  | .LD__HLinc__A => Sys2Proof.Machine.execLD__HLinc__A s
  | .INC_HL => Sys2Proof.Machine.execINC_HL s
  | .INC_H => Sys2Proof.Machine.execINC_H s
  | .DEC_H => Sys2Proof.Machine.execDEC_H s
  | .LD_H_d8 d => Sys2Proof.Machine.execLD_H_d8 d s
  | .DAA => Sys2Proof.Machine.execDAA s
  | .JR_Z_e8 e => Sys2Proof.Machine.execJR_Z_e8 e s
  | .ADD_HL_HL => Sys2Proof.Machine.execADD_HL_HL s
  | .LD_A__HLinc => Sys2Proof.Machine.execLD_A__HLinc s
  | .DEC_HL => Sys2Proof.Machine.execDEC_HL s
  | .INC_L => Sys2Proof.Machine.execINC_L s
  | .DEC_L => Sys2Proof.Machine.execDEC_L s
  | .LD_L_d8 d => Sys2Proof.Machine.execLD_L_d8 d s
  | .CPL => Sys2Proof.Machine.execCPL s
  | .JR_NC_e8 e => Sys2Proof.Machine.execJR_NC_e8 e s
  | .LD_SP_d16 d => Sys2Proof.Machine.execLD_SP_d16 d s
  | .LD__HLdec__A => Sys2Proof.Machine.execLD__HLdec__A s
  | .INC_SP => Sys2Proof.Machine.execINC_SP s
  | .INC__HL => Sys2Proof.Machine.execINC__HL s
  | .DEC__HL => Sys2Proof.Machine.execDEC__HL s
  | .LD__HL__d8 d => Sys2Proof.Machine.execLD__HL__d8 d s
  | .SCF => Sys2Proof.Machine.execSCF s
  | .JR_C_e8 e => Sys2Proof.Machine.execJR_C_e8 e s
  | .ADD_HL_SP => Sys2Proof.Machine.execADD_HL_SP s
  | .LD_A__HLdec => Sys2Proof.Machine.execLD_A__HLdec s
  | .DEC_SP => Sys2Proof.Machine.execDEC_SP s
  | .INC_A => Sys2Proof.Machine.execINC_A s
  | .DEC_A => Sys2Proof.Machine.execDEC_A s
  | .LD_A_d8 d => Sys2Proof.Machine.execLD_A_d8 d s
  | .CCF => Sys2Proof.Machine.execCCF s
  | .LD_B_B => Sys2Proof.Machine.execLD_B_B s
  | .LD_B_C => Sys2Proof.Machine.execLD_B_C s
  | .LD_B_D => Sys2Proof.Machine.execLD_B_D s
  | .LD_B_E => Sys2Proof.Machine.execLD_B_E s
  | .LD_B_H => Sys2Proof.Machine.execLD_B_H s
  | .LD_B_L => Sys2Proof.Machine.execLD_B_L s
  | .LD_B__HL => Sys2Proof.Machine.execLD_B__HL s
  | .LD_B_A => Sys2Proof.Machine.execLD_B_A s
  | .LD_C_B => Sys2Proof.Machine.execLD_C_B s
  | .LD_C_C => Sys2Proof.Machine.execLD_C_C s
  | .LD_C_D => Sys2Proof.Machine.execLD_C_D s
  | .LD_C_E => Sys2Proof.Machine.execLD_C_E s
  | .LD_C_H => Sys2Proof.Machine.execLD_C_H s
  | .LD_C_L => Sys2Proof.Machine.execLD_C_L s
  | .LD_C__HL => Sys2Proof.Machine.execLD_C__HL s
  | .LD_C_A => Sys2Proof.Machine.execLD_C_A s
  | .LD_D_B => Sys2Proof.Machine.execLD_D_B s
  | .LD_D_C => Sys2Proof.Machine.execLD_D_C s
  | .LD_D_D => Sys2Proof.Machine.execLD_D_D s
  | .LD_D_E => Sys2Proof.Machine.execLD_D_E s
  | .LD_D_H => Sys2Proof.Machine.execLD_D_H s
  | .LD_D_L => Sys2Proof.Machine.execLD_D_L s
  | .LD_D__HL => Sys2Proof.Machine.execLD_D__HL s
  | .LD_D_A => Sys2Proof.Machine.execLD_D_A s
  | .LD_E_B => Sys2Proof.Machine.execLD_E_B s
  | .LD_E_C => Sys2Proof.Machine.execLD_E_C s
  | .LD_E_D => Sys2Proof.Machine.execLD_E_D s
  | .LD_E_E => Sys2Proof.Machine.execLD_E_E s
  | .LD_E_H => Sys2Proof.Machine.execLD_E_H s
  | .LD_E_L => Sys2Proof.Machine.execLD_E_L s
  | .LD_E__HL => Sys2Proof.Machine.execLD_E__HL s
  | .LD_E_A => Sys2Proof.Machine.execLD_E_A s
  | .LD_H_B => Sys2Proof.Machine.execLD_H_B s
  | .LD_H_C => Sys2Proof.Machine.execLD_H_C s
  | .LD_H_D => Sys2Proof.Machine.execLD_H_D s
  | .LD_H_E => Sys2Proof.Machine.execLD_H_E s
  | .LD_H_H => Sys2Proof.Machine.execLD_H_H s
  | .LD_H_L => Sys2Proof.Machine.execLD_H_L s
  | .LD_H__HL => Sys2Proof.Machine.execLD_H__HL s
  | .LD_H_A => Sys2Proof.Machine.execLD_H_A s
  | .LD_L_B => Sys2Proof.Machine.execLD_L_B s
  | .LD_L_C => Sys2Proof.Machine.execLD_L_C s
  | .LD_L_D => Sys2Proof.Machine.execLD_L_D s
  | .LD_L_E => Sys2Proof.Machine.execLD_L_E s
  | .LD_L_H => Sys2Proof.Machine.execLD_L_H s
  | .LD_L_L => Sys2Proof.Machine.execLD_L_L s
  | .LD_L__HL => Sys2Proof.Machine.execLD_L__HL s
  | .LD_L_A => Sys2Proof.Machine.execLD_L_A s
  | .LD__HL__B => Sys2Proof.Machine.execLD__HL__B s
  | .LD__HL__C => Sys2Proof.Machine.execLD__HL__C s
  | .LD__HL__D => Sys2Proof.Machine.execLD__HL__D s
  | .LD__HL__E => Sys2Proof.Machine.execLD__HL__E s
  | .LD__HL__H => Sys2Proof.Machine.execLD__HL__H s
  | .LD__HL__L => Sys2Proof.Machine.execLD__HL__L s
  | .HALT => Sys2Proof.Machine.execHALT s
  | .LD__HL__A => Sys2Proof.Machine.execLD__HL__A s
  | .LD_A_B => Sys2Proof.Machine.execLD_A_B s
  | .LD_A_C => Sys2Proof.Machine.execLD_A_C s
  | .LD_A_D => Sys2Proof.Machine.execLD_A_D s
  | .LD_A_E => Sys2Proof.Machine.execLD_A_E s
  | .LD_A_H => Sys2Proof.Machine.execLD_A_H s
  | .LD_A_L => Sys2Proof.Machine.execLD_A_L s
  | .LD_A__HL => Sys2Proof.Machine.execLD_A__HL s
  | .LD_A_A => Sys2Proof.Machine.execLD_A_A s
  | .ADD_A_B => Sys2Proof.Machine.execADD_A_B s
  | .ADD_A_C => Sys2Proof.Machine.execADD_A_C s
  | .ADD_A_D => Sys2Proof.Machine.execADD_A_D s
  | .ADD_A_E => Sys2Proof.Machine.execADD_A_E s
  | .ADD_A_H => Sys2Proof.Machine.execADD_A_H s
  | .ADD_A_L => Sys2Proof.Machine.execADD_A_L s
  | .ADD_A__HL => Sys2Proof.Machine.execADD_A__HL s
  | .ADD_A_A => Sys2Proof.Machine.execADD_A_A s
  | .ADC_A_B => Sys2Proof.Machine.execADC_A_B s
  | .ADC_A_C => Sys2Proof.Machine.execADC_A_C s
  | .ADC_A_D => Sys2Proof.Machine.execADC_A_D s
  | .ADC_A_E => Sys2Proof.Machine.execADC_A_E s
  | .ADC_A_H => Sys2Proof.Machine.execADC_A_H s
  | .ADC_A_L => Sys2Proof.Machine.execADC_A_L s
  | .ADC_A__HL => Sys2Proof.Machine.execADC_A__HL s
  | .ADC_A_A => Sys2Proof.Machine.execADC_A_A s
  | .SUB_B => Sys2Proof.Machine.execSUB_B s
  | .SUB_C => Sys2Proof.Machine.execSUB_C s
  | .SUB_D => Sys2Proof.Machine.execSUB_D s
  | .SUB_E => Sys2Proof.Machine.execSUB_E s
  | .SUB_H => Sys2Proof.Machine.execSUB_H s
  | .SUB_L => Sys2Proof.Machine.execSUB_L s
  | .SUB__HL => Sys2Proof.Machine.execSUB__HL s
  | .SUB_A => Sys2Proof.Machine.execSUB_A s
  | .SBC_A_B => Sys2Proof.Machine.execSBC_A_B s
  | .SBC_A_C => Sys2Proof.Machine.execSBC_A_C s
  | .SBC_A_D => Sys2Proof.Machine.execSBC_A_D s
  | .SBC_A_E => Sys2Proof.Machine.execSBC_A_E s
  | .SBC_A_H => Sys2Proof.Machine.execSBC_A_H s
  | .SBC_A_L => Sys2Proof.Machine.execSBC_A_L s
  | .SBC_A__HL => Sys2Proof.Machine.execSBC_A__HL s
  | .SBC_A_A => Sys2Proof.Machine.execSBC_A_A s
  | .AND_B => Sys2Proof.Machine.execAND_B s
  | .AND_C => Sys2Proof.Machine.execAND_C s
  | .AND_D => Sys2Proof.Machine.execAND_D s
  | .AND_E => Sys2Proof.Machine.execAND_E s
  | .AND_H => Sys2Proof.Machine.execAND_H s
  | .AND_L => Sys2Proof.Machine.execAND_L s
  | .AND__HL => Sys2Proof.Machine.execAND__HL s
  | .AND_A => Sys2Proof.Machine.execAND_A s
  | .XOR_B => Sys2Proof.Machine.execXOR_B s
  | .XOR_C => Sys2Proof.Machine.execXOR_C s
  | .XOR_D => Sys2Proof.Machine.execXOR_D s
  | .XOR_E => Sys2Proof.Machine.execXOR_E s
  | .XOR_H => Sys2Proof.Machine.execXOR_H s
  | .XOR_L => Sys2Proof.Machine.execXOR_L s
  | .XOR__HL => Sys2Proof.Machine.execXOR__HL s
  | .XOR_A => Sys2Proof.Machine.execXOR_A s
  | .OR_B => Sys2Proof.Machine.execOR_B s
  | .OR_C => Sys2Proof.Machine.execOR_C s
  | .OR_D => Sys2Proof.Machine.execOR_D s
  | .OR_E => Sys2Proof.Machine.execOR_E s
  | .OR_H => Sys2Proof.Machine.execOR_H s
  | .OR_L => Sys2Proof.Machine.execOR_L s
  | .OR__HL => Sys2Proof.Machine.execOR__HL s
  | .OR_A => Sys2Proof.Machine.execOR_A s
  | .CP_B => Sys2Proof.Machine.execCP_B s
  | .CP_C => Sys2Proof.Machine.execCP_C s
  | .CP_D => Sys2Proof.Machine.execCP_D s
  | .CP_E => Sys2Proof.Machine.execCP_E s
  | .CP_H => Sys2Proof.Machine.execCP_H s
  | .CP_L => Sys2Proof.Machine.execCP_L s
  | .CP__HL => Sys2Proof.Machine.execCP__HL s
  | .CP_A => Sys2Proof.Machine.execCP_A s
  | .RET_NZ => Sys2Proof.Machine.execRET_NZ s
  | .POP_BC => Sys2Proof.Machine.execPOP_BC s
  | .JP_NZ_a16 a => Sys2Proof.Machine.execJP_NZ_a16 a s
  | .JP_a16 a => Sys2Proof.Machine.execJP_a16 a s
  | .CALL_NZ_a16 a => Sys2Proof.Machine.execCALL_NZ_a16 a s
  | .PUSH_BC => Sys2Proof.Machine.execPUSH_BC s
  | .ADD_A_d8 d => Sys2Proof.Machine.execADD_A_d8 d s
  | .RST_0x00 => Sys2Proof.Machine.execRST_0x00 s
  | .RET_Z => Sys2Proof.Machine.execRET_Z s
  | .RET => Sys2Proof.Machine.execRET s
  | .JP_Z_a16 a => Sys2Proof.Machine.execJP_Z_a16 a s
  | .PREFIX_CB c => Sys2Proof.Machine.execPREFIX_CB c s
  | .CALL_Z_a16 a => Sys2Proof.Machine.execCALL_Z_a16 a s
  | .CALL_a16 a => Sys2Proof.Machine.execCALL_a16 a s
  | .ADC_A_d8 d => Sys2Proof.Machine.execADC_A_d8 d s
  | .RST_0x08 => Sys2Proof.Machine.execRST_0x08 s
  | .RET_NC => Sys2Proof.Machine.execRET_NC s
  | .POP_DE => Sys2Proof.Machine.execPOP_DE s
  | .JP_NC_a16 a => Sys2Proof.Machine.execJP_NC_a16 a s
  | .ILLEGAL_0xD3 => Sys2Proof.Machine.execILLEGAL_0xD3 s
  | .CALL_NC_a16 a => Sys2Proof.Machine.execCALL_NC_a16 a s
  | .PUSH_DE => Sys2Proof.Machine.execPUSH_DE s
  | .SUB_d8 d => Sys2Proof.Machine.execSUB_d8 d s
  | .RST_0x10 => Sys2Proof.Machine.execRST_0x10 s
  | .RET_C => Sys2Proof.Machine.execRET_C s
  | .RETI => Sys2Proof.Machine.execRETI s
  | .JP_C_a16 a => Sys2Proof.Machine.execJP_C_a16 a s
  | .ILLEGAL_0xDB => Sys2Proof.Machine.execILLEGAL_0xDB s
  | .CALL_C_a16 a => Sys2Proof.Machine.execCALL_C_a16 a s
  | .ILLEGAL_0xDD => Sys2Proof.Machine.execILLEGAL_0xDD s
  | .SBC_A_d8 d => Sys2Proof.Machine.execSBC_A_d8 d s
  | .RST_0x18 => Sys2Proof.Machine.execRST_0x18 s
  | .LDH__a8__A a => Sys2Proof.Machine.execLDH__a8__A a s
  | .POP_HL => Sys2Proof.Machine.execPOP_HL s
  | .LD__C__A => Sys2Proof.Machine.execLD__C__A s
  | .ILLEGAL_0xE3 => Sys2Proof.Machine.execILLEGAL_0xE3 s
  | .ILLEGAL_0xE4 => Sys2Proof.Machine.execILLEGAL_0xE4 s
  | .PUSH_HL => Sys2Proof.Machine.execPUSH_HL s
  | .AND_d8 d => Sys2Proof.Machine.execAND_d8 d s
  | .RST_0x20 => Sys2Proof.Machine.execRST_0x20 s
  | .ADD_SP_e8 e => Sys2Proof.Machine.execADD_SP_e8 e s
  | .JP_HL => Sys2Proof.Machine.execJP_HL s
  | .LD__a16__A a => Sys2Proof.Machine.execLD__a16__A a s
  | .ILLEGAL_0xEB => Sys2Proof.Machine.execILLEGAL_0xEB s
  | .ILLEGAL_0xEC => Sys2Proof.Machine.execILLEGAL_0xEC s
  | .ILLEGAL_0xED => Sys2Proof.Machine.execILLEGAL_0xED s
  | .XOR_d8 d => Sys2Proof.Machine.execXOR_d8 d s
  | .RST_0x28 => Sys2Proof.Machine.execRST_0x28 s
  | .LDH_A__a8 a => Sys2Proof.Machine.execLDH_A__a8 a s
  | .POP_AF => Sys2Proof.Machine.execPOP_AF s
  | .LD_A__C => Sys2Proof.Machine.execLD_A__C s
  | .DI => Sys2Proof.Machine.execDI s
  | .ILLEGAL_0xF4 => Sys2Proof.Machine.execILLEGAL_0xF4 s
  | .PUSH_AF => Sys2Proof.Machine.execPUSH_AF s
  | .OR_d8 d => Sys2Proof.Machine.execOR_d8 d s
  | .RST_0x30 => Sys2Proof.Machine.execRST_0x30 s
  | .LD_HL_SPplus_e8 e => Sys2Proof.Machine.execLD_HL_SPplus_e8 e s
  | .LD_SP_HL => Sys2Proof.Machine.execLD_SP_HL s
  | .LD_A__a16 a => Sys2Proof.Machine.execLD_A__a16 a s
  | .EI => Sys2Proof.Machine.execEI s
  | .ILLEGAL_0xFC => Sys2Proof.Machine.execILLEGAL_0xFC s
  | .ILLEGAL_0xFD => Sys2Proof.Machine.execILLEGAL_0xFD s
  | .CP_d8 d => Sys2Proof.Machine.execCP_d8 d s
  | .RST_0x38 => Sys2Proof.Machine.execRST_0x38 s
  | .STOP b => Sys2Proof.Machine.execSTOP b s
  | .RLC_B => Sys2Proof.Machine.execRLC_B s
  | .RLC_C => Sys2Proof.Machine.execRLC_C s
  | .RLC_D => Sys2Proof.Machine.execRLC_D s
  | .RLC_E => Sys2Proof.Machine.execRLC_E s
  | .RLC_H => Sys2Proof.Machine.execRLC_H s
  | .RLC_L => Sys2Proof.Machine.execRLC_L s
  | .RLC__HL => Sys2Proof.Machine.execRLC__HL s
  | .RLC_A => Sys2Proof.Machine.execRLC_A s
  | .RRC_B => Sys2Proof.Machine.execRRC_B s
  | .RRC_C => Sys2Proof.Machine.execRRC_C s
  | .RRC_D => Sys2Proof.Machine.execRRC_D s
  | .RRC_E => Sys2Proof.Machine.execRRC_E s
  | .RRC_H => Sys2Proof.Machine.execRRC_H s
  | .RRC_L => Sys2Proof.Machine.execRRC_L s
  | .RRC__HL => Sys2Proof.Machine.execRRC__HL s
  | .RRC_A => Sys2Proof.Machine.execRRC_A s
  | .RL_B => Sys2Proof.Machine.execRL_B s
  | .RL_C => Sys2Proof.Machine.execRL_C s
  | .RL_D => Sys2Proof.Machine.execRL_D s
  | .RL_E => Sys2Proof.Machine.execRL_E s
  | .RL_H => Sys2Proof.Machine.execRL_H s
  | .RL_L => Sys2Proof.Machine.execRL_L s
  | .RL__HL => Sys2Proof.Machine.execRL__HL s
  | .RL_A => Sys2Proof.Machine.execRL_A s
  | .RR_B => Sys2Proof.Machine.execRR_B s
  | .RR_C => Sys2Proof.Machine.execRR_C s
  | .RR_D => Sys2Proof.Machine.execRR_D s
  | .RR_E => Sys2Proof.Machine.execRR_E s
  | .RR_H => Sys2Proof.Machine.execRR_H s
  | .RR_L => Sys2Proof.Machine.execRR_L s
  | .RR__HL => Sys2Proof.Machine.execRR__HL s
  | .RR_A => Sys2Proof.Machine.execRR_A s
  | .SLA_B => Sys2Proof.Machine.execSLA_B s
  | .SLA_C => Sys2Proof.Machine.execSLA_C s
  | .SLA_D => Sys2Proof.Machine.execSLA_D s
  | .SLA_E => Sys2Proof.Machine.execSLA_E s
  | .SLA_H => Sys2Proof.Machine.execSLA_H s
  | .SLA_L => Sys2Proof.Machine.execSLA_L s
  | .SLA__HL => Sys2Proof.Machine.execSLA__HL s
  | .SLA_A => Sys2Proof.Machine.execSLA_A s
  | .SRA_B => Sys2Proof.Machine.execSRA_B s
  | .SRA_C => Sys2Proof.Machine.execSRA_C s
  | .SRA_D => Sys2Proof.Machine.execSRA_D s
  | .SRA_E => Sys2Proof.Machine.execSRA_E s
  | .SRA_H => Sys2Proof.Machine.execSRA_H s
  | .SRA_L => Sys2Proof.Machine.execSRA_L s
  | .SRA__HL => Sys2Proof.Machine.execSRA__HL s
  | .SRA_A => Sys2Proof.Machine.execSRA_A s
  | .SWAP_B => Sys2Proof.Machine.execSWAP_B s
  | .SWAP_C => Sys2Proof.Machine.execSWAP_C s
  | .SWAP_D => Sys2Proof.Machine.execSWAP_D s
  | .SWAP_E => Sys2Proof.Machine.execSWAP_E s
  | .SWAP_H => Sys2Proof.Machine.execSWAP_H s
  | .SWAP_L => Sys2Proof.Machine.execSWAP_L s
  | .SWAP__HL => Sys2Proof.Machine.execSWAP__HL s
  | .SWAP_A => Sys2Proof.Machine.execSWAP_A s
  | .SRL_B => Sys2Proof.Machine.execSRL_B s
  | .SRL_C => Sys2Proof.Machine.execSRL_C s
  | .SRL_D => Sys2Proof.Machine.execSRL_D s
  | .SRL_E => Sys2Proof.Machine.execSRL_E s
  | .SRL_H => Sys2Proof.Machine.execSRL_H s
  | .SRL_L => Sys2Proof.Machine.execSRL_L s
  | .SRL__HL => Sys2Proof.Machine.execSRL__HL s
  | .SRL_A => Sys2Proof.Machine.execSRL_A s
  | .BIT_0_B => Sys2Proof.Machine.execBIT_0_B s
  | .BIT_0_C => Sys2Proof.Machine.execBIT_0_C s
  | .BIT_0_D => Sys2Proof.Machine.execBIT_0_D s
  | .BIT_0_E => Sys2Proof.Machine.execBIT_0_E s
  | .BIT_0_H => Sys2Proof.Machine.execBIT_0_H s
  | .BIT_0_L => Sys2Proof.Machine.execBIT_0_L s
  | .BIT_0__HL => Sys2Proof.Machine.execBIT_0__HL s
  | .BIT_0_A => Sys2Proof.Machine.execBIT_0_A s
  | .BIT_1_B => Sys2Proof.Machine.execBIT_1_B s
  | .BIT_1_C => Sys2Proof.Machine.execBIT_1_C s
  | .BIT_1_D => Sys2Proof.Machine.execBIT_1_D s
  | .BIT_1_E => Sys2Proof.Machine.execBIT_1_E s
  | .BIT_1_H => Sys2Proof.Machine.execBIT_1_H s
  | .BIT_1_L => Sys2Proof.Machine.execBIT_1_L s
  | .BIT_1__HL => Sys2Proof.Machine.execBIT_1__HL s
  | .BIT_1_A => Sys2Proof.Machine.execBIT_1_A s
  | .BIT_2_B => Sys2Proof.Machine.execBIT_2_B s
  | .BIT_2_C => Sys2Proof.Machine.execBIT_2_C s
  | .BIT_2_D => Sys2Proof.Machine.execBIT_2_D s
  | .BIT_2_E => Sys2Proof.Machine.execBIT_2_E s
  | .BIT_2_H => Sys2Proof.Machine.execBIT_2_H s
  | .BIT_2_L => Sys2Proof.Machine.execBIT_2_L s
  | .BIT_2__HL => Sys2Proof.Machine.execBIT_2__HL s
  | .BIT_2_A => Sys2Proof.Machine.execBIT_2_A s
  | .BIT_3_B => Sys2Proof.Machine.execBIT_3_B s
  | .BIT_3_C => Sys2Proof.Machine.execBIT_3_C s
  | .BIT_3_D => Sys2Proof.Machine.execBIT_3_D s
  | .BIT_3_E => Sys2Proof.Machine.execBIT_3_E s
  | .BIT_3_H => Sys2Proof.Machine.execBIT_3_H s
  | .BIT_3_L => Sys2Proof.Machine.execBIT_3_L s
  | .BIT_3__HL => Sys2Proof.Machine.execBIT_3__HL s
  | .BIT_3_A => Sys2Proof.Machine.execBIT_3_A s
  | .BIT_4_B => Sys2Proof.Machine.execBIT_4_B s
  | .BIT_4_C => Sys2Proof.Machine.execBIT_4_C s
  | .BIT_4_D => Sys2Proof.Machine.execBIT_4_D s
  | .BIT_4_E => Sys2Proof.Machine.execBIT_4_E s
  | .BIT_4_H => Sys2Proof.Machine.execBIT_4_H s
  | .BIT_4_L => Sys2Proof.Machine.execBIT_4_L s
  | .BIT_4__HL => Sys2Proof.Machine.execBIT_4__HL s
  | .BIT_4_A => Sys2Proof.Machine.execBIT_4_A s
  | .BIT_5_B => Sys2Proof.Machine.execBIT_5_B s
  | .BIT_5_C => Sys2Proof.Machine.execBIT_5_C s
  | .BIT_5_D => Sys2Proof.Machine.execBIT_5_D s
  | .BIT_5_E => Sys2Proof.Machine.execBIT_5_E s
  | .BIT_5_H => Sys2Proof.Machine.execBIT_5_H s
  | .BIT_5_L => Sys2Proof.Machine.execBIT_5_L s
  | .BIT_5__HL => Sys2Proof.Machine.execBIT_5__HL s
  | .BIT_5_A => Sys2Proof.Machine.execBIT_5_A s
  | .BIT_6_B => Sys2Proof.Machine.execBIT_6_B s
  | .BIT_6_C => Sys2Proof.Machine.execBIT_6_C s
  | .BIT_6_D => Sys2Proof.Machine.execBIT_6_D s
  | .BIT_6_E => Sys2Proof.Machine.execBIT_6_E s
  | .BIT_6_H => Sys2Proof.Machine.execBIT_6_H s
  | .BIT_6_L => Sys2Proof.Machine.execBIT_6_L s
  | .BIT_6__HL => Sys2Proof.Machine.execBIT_6__HL s
  | .BIT_6_A => Sys2Proof.Machine.execBIT_6_A s
  | .BIT_7_B => Sys2Proof.Machine.execBIT_7_B s
  | .BIT_7_C => Sys2Proof.Machine.execBIT_7_C s
  | .BIT_7_D => Sys2Proof.Machine.execBIT_7_D s
  | .BIT_7_E => Sys2Proof.Machine.execBIT_7_E s
  | .BIT_7_H => Sys2Proof.Machine.execBIT_7_H s
  | .BIT_7_L => Sys2Proof.Machine.execBIT_7_L s
  | .BIT_7__HL => Sys2Proof.Machine.execBIT_7__HL s
  | .BIT_7_A => Sys2Proof.Machine.execBIT_7_A s
  | .RES_0_B => Sys2Proof.Machine.execRES_0_B s
  | .RES_0_C => Sys2Proof.Machine.execRES_0_C s
  | .RES_0_D => Sys2Proof.Machine.execRES_0_D s
  | .RES_0_E => Sys2Proof.Machine.execRES_0_E s
  | .RES_0_H => Sys2Proof.Machine.execRES_0_H s
  | .RES_0_L => Sys2Proof.Machine.execRES_0_L s
  | .RES_0__HL => Sys2Proof.Machine.execRES_0__HL s
  | .RES_0_A => Sys2Proof.Machine.execRES_0_A s
  | .RES_1_B => Sys2Proof.Machine.execRES_1_B s
  | .RES_1_C => Sys2Proof.Machine.execRES_1_C s
  | .RES_1_D => Sys2Proof.Machine.execRES_1_D s
  | .RES_1_E => Sys2Proof.Machine.execRES_1_E s
  | .RES_1_H => Sys2Proof.Machine.execRES_1_H s
  | .RES_1_L => Sys2Proof.Machine.execRES_1_L s
  | .RES_1__HL => Sys2Proof.Machine.execRES_1__HL s
  | .RES_1_A => Sys2Proof.Machine.execRES_1_A s
  | .RES_2_B => Sys2Proof.Machine.execRES_2_B s
  | .RES_2_C => Sys2Proof.Machine.execRES_2_C s
  | .RES_2_D => Sys2Proof.Machine.execRES_2_D s
  | .RES_2_E => Sys2Proof.Machine.execRES_2_E s
  | .RES_2_H => Sys2Proof.Machine.execRES_2_H s
  | .RES_2_L => Sys2Proof.Machine.execRES_2_L s
  | .RES_2__HL => Sys2Proof.Machine.execRES_2__HL s
  | .RES_2_A => Sys2Proof.Machine.execRES_2_A s
  | .RES_3_B => Sys2Proof.Machine.execRES_3_B s
  | .RES_3_C => Sys2Proof.Machine.execRES_3_C s
  | .RES_3_D => Sys2Proof.Machine.execRES_3_D s
  | .RES_3_E => Sys2Proof.Machine.execRES_3_E s
  | .RES_3_H => Sys2Proof.Machine.execRES_3_H s
  | .RES_3_L => Sys2Proof.Machine.execRES_3_L s
  | .RES_3__HL => Sys2Proof.Machine.execRES_3__HL s
  | .RES_3_A => Sys2Proof.Machine.execRES_3_A s
  | .RES_4_B => Sys2Proof.Machine.execRES_4_B s
  | .RES_4_C => Sys2Proof.Machine.execRES_4_C s
  | .RES_4_D => Sys2Proof.Machine.execRES_4_D s
  | .RES_4_E => Sys2Proof.Machine.execRES_4_E s
  | .RES_4_H => Sys2Proof.Machine.execRES_4_H s
  | .RES_4_L => Sys2Proof.Machine.execRES_4_L s
  | .RES_4__HL => Sys2Proof.Machine.execRES_4__HL s
  | .RES_4_A => Sys2Proof.Machine.execRES_4_A s
  | .RES_5_B => Sys2Proof.Machine.execRES_5_B s
  | .RES_5_C => Sys2Proof.Machine.execRES_5_C s
  | .RES_5_D => Sys2Proof.Machine.execRES_5_D s
  | .RES_5_E => Sys2Proof.Machine.execRES_5_E s
  | .RES_5_H => Sys2Proof.Machine.execRES_5_H s
  | .RES_5_L => Sys2Proof.Machine.execRES_5_L s
  | .RES_5__HL => Sys2Proof.Machine.execRES_5__HL s
  | .RES_5_A => Sys2Proof.Machine.execRES_5_A s
  | .RES_6_B => Sys2Proof.Machine.execRES_6_B s
  | .RES_6_C => Sys2Proof.Machine.execRES_6_C s
  | .RES_6_D => Sys2Proof.Machine.execRES_6_D s
  | .RES_6_E => Sys2Proof.Machine.execRES_6_E s
  | .RES_6_H => Sys2Proof.Machine.execRES_6_H s
  | .RES_6_L => Sys2Proof.Machine.execRES_6_L s
  | .RES_6__HL => Sys2Proof.Machine.execRES_6__HL s
  | .RES_6_A => Sys2Proof.Machine.execRES_6_A s
  | .RES_7_B => Sys2Proof.Machine.execRES_7_B s
  | .RES_7_C => Sys2Proof.Machine.execRES_7_C s
  | .RES_7_D => Sys2Proof.Machine.execRES_7_D s
  | .RES_7_E => Sys2Proof.Machine.execRES_7_E s
  | .RES_7_H => Sys2Proof.Machine.execRES_7_H s
  | .RES_7_L => Sys2Proof.Machine.execRES_7_L s
  | .RES_7__HL => Sys2Proof.Machine.execRES_7__HL s
  | .RES_7_A => Sys2Proof.Machine.execRES_7_A s
  | .SET_0_B => Sys2Proof.Machine.execSET_0_B s
  | .SET_0_C => Sys2Proof.Machine.execSET_0_C s
  | .SET_0_D => Sys2Proof.Machine.execSET_0_D s
  | .SET_0_E => Sys2Proof.Machine.execSET_0_E s
  | .SET_0_H => Sys2Proof.Machine.execSET_0_H s
  | .SET_0_L => Sys2Proof.Machine.execSET_0_L s
  | .SET_0__HL => Sys2Proof.Machine.execSET_0__HL s
  | .SET_0_A => Sys2Proof.Machine.execSET_0_A s
  | .SET_1_B => Sys2Proof.Machine.execSET_1_B s
  | .SET_1_C => Sys2Proof.Machine.execSET_1_C s
  | .SET_1_D => Sys2Proof.Machine.execSET_1_D s
  | .SET_1_E => Sys2Proof.Machine.execSET_1_E s
  | .SET_1_H => Sys2Proof.Machine.execSET_1_H s
  | .SET_1_L => Sys2Proof.Machine.execSET_1_L s
  | .SET_1__HL => Sys2Proof.Machine.execSET_1__HL s
  | .SET_1_A => Sys2Proof.Machine.execSET_1_A s
  | .SET_2_B => Sys2Proof.Machine.execSET_2_B s
  | .SET_2_C => Sys2Proof.Machine.execSET_2_C s
  | .SET_2_D => Sys2Proof.Machine.execSET_2_D s
  | .SET_2_E => Sys2Proof.Machine.execSET_2_E s
  | .SET_2_H => Sys2Proof.Machine.execSET_2_H s
  | .SET_2_L => Sys2Proof.Machine.execSET_2_L s
  | .SET_2__HL => Sys2Proof.Machine.execSET_2__HL s
  | .SET_2_A => Sys2Proof.Machine.execSET_2_A s
  | .SET_3_B => Sys2Proof.Machine.execSET_3_B s
  | .SET_3_C => Sys2Proof.Machine.execSET_3_C s
  | .SET_3_D => Sys2Proof.Machine.execSET_3_D s
  | .SET_3_E => Sys2Proof.Machine.execSET_3_E s
  | .SET_3_H => Sys2Proof.Machine.execSET_3_H s
  | .SET_3_L => Sys2Proof.Machine.execSET_3_L s
  | .SET_3__HL => Sys2Proof.Machine.execSET_3__HL s
  | .SET_3_A => Sys2Proof.Machine.execSET_3_A s
  | .SET_4_B => Sys2Proof.Machine.execSET_4_B s
  | .SET_4_C => Sys2Proof.Machine.execSET_4_C s
  | .SET_4_D => Sys2Proof.Machine.execSET_4_D s
  | .SET_4_E => Sys2Proof.Machine.execSET_4_E s
  | .SET_4_H => Sys2Proof.Machine.execSET_4_H s
  | .SET_4_L => Sys2Proof.Machine.execSET_4_L s
  | .SET_4__HL => Sys2Proof.Machine.execSET_4__HL s
  | .SET_4_A => Sys2Proof.Machine.execSET_4_A s
  | .SET_5_B => Sys2Proof.Machine.execSET_5_B s
  | .SET_5_C => Sys2Proof.Machine.execSET_5_C s
  | .SET_5_D => Sys2Proof.Machine.execSET_5_D s
  | .SET_5_E => Sys2Proof.Machine.execSET_5_E s
  | .SET_5_H => Sys2Proof.Machine.execSET_5_H s
  | .SET_5_L => Sys2Proof.Machine.execSET_5_L s
  | .SET_5__HL => Sys2Proof.Machine.execSET_5__HL s
  | .SET_5_A => Sys2Proof.Machine.execSET_5_A s
  | .SET_6_B => Sys2Proof.Machine.execSET_6_B s
  | .SET_6_C => Sys2Proof.Machine.execSET_6_C s
  | .SET_6_D => Sys2Proof.Machine.execSET_6_D s
  | .SET_6_E => Sys2Proof.Machine.execSET_6_E s
  | .SET_6_H => Sys2Proof.Machine.execSET_6_H s
  | .SET_6_L => Sys2Proof.Machine.execSET_6_L s
  | .SET_6__HL => Sys2Proof.Machine.execSET_6__HL s
  | .SET_6_A => Sys2Proof.Machine.execSET_6_A s
  | .SET_7_B => Sys2Proof.Machine.execSET_7_B s
  | .SET_7_C => Sys2Proof.Machine.execSET_7_C s
  | .SET_7_D => Sys2Proof.Machine.execSET_7_D s
  | .SET_7_E => Sys2Proof.Machine.execSET_7_E s
  | .SET_7_H => Sys2Proof.Machine.execSET_7_H s
  | .SET_7_L => Sys2Proof.Machine.execSET_7_L s
  | .SET_7__HL => Sys2Proof.Machine.execSET_7__HL s
  | .SET_7_A => Sys2Proof.Machine.execSET_7_A s

end Sys2Proof.Machine
end

