-- ==== Sys2Proof/Machine/Timer.lean ====
section
/-! DEFINITION. The timer and divider (spec/61_timer.md). -/

namespace Sys2Proof.Machine

/-- `period(TAC)` in CPU ticks (R550). -/
def timerPeriod (tac : Byte) : Nat :=
  match field tac 0 2 with
  | 0 => 1024
  | 1 => 16
  | 2 => 64
  | _ => 256

/-- One TIMA increment; an overflow reloads TMA and requests interrupt 2 (R552). -/
def timaIncrement (s : State) : State :=
  if s.timer.tima = 0xFF then { s with timer := { s.timer with tima := s.timer.tma } }.request 2
  else { s with timer := { s.timer with tima := s.timer.tima + 1 } }

/-- One turn of R553's while loop: the period is taken from the accumulator, then TIMA is incremented. -/
def timerTurn (period : Nat) (s : State) : State :=
  timaIncrement { s with timer := { s.timer with timaAcc := s.timer.timaAcc - period } }

/-- `TimerAdvance(c)` (R553). -/
def timerAdvance (c : Nat) (s : State) : State :=
  let s1 := { s with timer := { s.timer with divCounter := s.timer.divCounter + BitVec.ofNat 16 c } }
  if s.timer.tac.getLsbD 2 then
    let p := timerPeriod s.timer.tac
    let s2 := { s1 with timer := { s1.timer with timaAcc := s1.timer.timaAcc + c } }
    loopWhile (fun t => decide (p ≤ t.timer.timaAcc)) (timerTurn p) (s2.timer.timaAcc / p) s2
  else s1

end Sys2Proof.Machine
end

