-- ==== Sys2Proof/Machine/Phases.lean ====
section
/-! DEFINITION. The phases of one step (spec/60_exceptions.md R503, R508, R510, R511), the configurations that are
refused and the state a launch gives (R520; spec/00_scope.md R9). -/

namespace Sys2Proof.Machine

/-- `dots(c)` (R510): half as many dots as CPU ticks at double speed. -/
def dotsOf (fast : Bool) (c : Nat) : Nat := if fast then c / 2 else c

/-- `Advance(c)` at a speed (R510): the timer, the PPU, the sound unit. -/
def advance (fast : Bool) (c : Nat) (s : State) : Out State :=
  andThen (ppuAdvance (dotsOf fast c) (timerAdvance c s)) fun t => .next (soundAdvance (dotsOf fast c) t)

/-- Phase a (R510): one instruction, or 4 ticks of a halted CPU; `extra` starts at 0. -/
def executePhase (s : State) : Out State :=
  let s0 := { s with extra := 0 }
  if s.cpu.halted then .next (s0.setCost 4)
  else andThen (fetchInstr s0) fun x => exec x.1 x.2

/-- `c` after phase a (R510): the cost, the `extra` of R162, and the ticks owed (R164). -/
def stepTicks (s : State) : Nat := s.cost + s.extra + s.hdma.stall

/-- `stall <- 0`. -/
def clearStall (s : State) : State := { s with hdma := { s.hdma with stall := 0 } }

/-- The entries after one step of waiting (R511). -/
def countDown (q : List Deferred) : List Deferred := q.map fun d => { d with remaining := d.remaining - 1 }

/-- What IME becomes when the due entries act, in order (R511). -/
def imeAfter (q : List Deferred) (ime : Bool) : Bool :=
  q.foldl (fun b d => if d.remaining = 0 then decide (d.effect = .setIME) else b) ime

/-- `ApplyPending()` (R511). -/
def applyPending (s : State) : State :=
  let q := countDown s.cpu.pending
  { s with cpu := { s.cpu with ime := imeAfter q s.cpu.ime, pending := q.filter fun d => d.remaining ≠ 0 } }

/-- `HaltExit()` (R508). -/
def haltExit (s : State) : State :=
  if s.cpu.halted && (!s.cpu.ime || s.requested != 0) then s.setHalted false else s

/-- The lowest of the five requested interrupts (R502). -/
def lowestRequest (req : Byte) : Option Nat := [0, 1, 2, 3, 4].find? fun n => req.getLsbD n

/-- `Dispatch()` (R503): its 20 ticks pass at the current speed. -/
def dispatch (s : State) : Out State :=
  if s.cpu.ime then
    match lowestRequest s.requested with
    | some n => andThen (takeInterrupt n s) fun t => advance t.cpu.doubleSpeed 20 t
    | none => .next s
  else .next s

/-- Phases b to e (R510); `fast` is the speed the step began with. -/
def devicePhases (fast : Bool) (s : State) : Out State :=
  andThen (advance fast (stepTicks s) (applyPending (clearStall s))) fun t => dispatch (haltExit (serialTick t))

/-- The configurations that are refused (R520; 00_scope.md R3, R9; log entry 16). Which reason is recorded when both
hold is the model's choice: the super-console before the number of ROM banks (log entry 16). -/
def configError (s : State) : Option ConfigError :=
  if s.model = .sgb then some .superConsole
  else if s.cart.romBanks < 2 then some .romBanksBelowTwo
  else none

/-- A refused configuration records its reason in `fault` (R520; 10_state.md R41). -/
def State.checked (s : State) : State :=
  match configError s with
  | some e => { s with fault := some (.configuration e) }
  | none => s

/-- The state a launch gives (00_scope.md R9): the default `INIT` (70_reset_and_hazards.md R800) for the cartridge that
the header's type, ROM-size and RAM-size bytes describe; where they or the model are refused, with the reason recorded
(R520), and then for refused bytes, which describe no cartridge, over the plain one (log entry 16). -/
def State.launch (m : Model) (typeCode romCode ramCode : Byte) (mmm01Mapped : Bool)
    (rom ramInit mbc2Init : Memory) : State :=
  match Cart.ofHeader typeCode romCode ramCode with
  | .ok cart => (State.init m { cart with mmm01Mapped := mmm01Mapped } rom ramInit mbc2Init).checked
  | .error e => { State.init m Cart.plain rom [] [] with fault := some (.configuration e) }

/-- `Step()` (R510). A stopped machine takes no step: the outcome is the stop it recorded (R41, R520; log entry 15). -/
def machineStep (s : State) : Out State :=
  match s.fault, configError s with
  | some k, _ => stopWith k s
  | none, some e => stopWith (.configuration e) s
  | none, none => andThen (executePhase s) (devicePhases s.cpu.doubleSpeed)

end Sys2Proof.Machine
end

