-- ==== Sys2Proof/Machine/Step.lean ====
section
/-! DEFINITION. The step, and placing an instruction where the step fetches it. -/

namespace Sys2Proof.Machine

/-- One step of the machine (60_exceptions.md R510). -/
def step (s : State) : Host.Outcome State Fault Refusal := machineStep s

/-- The state in which an instruction of spec/opcode_table.json is the next one fetched (log entry 1). -/
def State.withFetchWord (s : State) (nbits w : Nat) : State := placeAtFetch (tableBytes nbits w) s

end Sys2Proof.Machine
end

