-- ==== Sys2Proof/Safety.lean ====
section
/-! DEFINITION. The terms claims are stated in: safe steps and runs (spec/60_exceptions.md R520, R521), which
addresses an access completes at, what an instruction leaves alone, and the invariant of the state between steps
(spec/70_reset_and_hazards.md R800; spec/10_state.md R36, R39 to R42). -/

namespace Sys2Proof.Machine

/-! ### Runs -/

/-- The step goes on: it ends neither in a fault nor in a refusal. -/
def SafeStep (s : State) : Prop := ∃ t, machineStep s = .next t

/-- `n` steps go on. -/
def SafeRun : Nat → State → Prop
  | 0, _ => True
  | n + 1, s => ∃ t, machineStep s = .next t ∧ SafeRun n t

/-! ### Where accesses complete -/

/-- The cartridge's mapping is known: no access to the ROM region is refused (20_memory.md R150). -/
def Mapped (s : State) : Prop := s.cart.mbc = .mmm01 → s.cart.mmm01Mapped = true

/-- An I/O address that holds no register (10_state.md R52): a write to it is a fault. -/
def Unimplemented (a : Word) : Prop :=
  0xFF00 ≤ a.toNat ∧ a.toNat ≤ 0xFF7F ∧ ioSlot (loByte a) = .unimplemented

/-- Both bytes of a push from `sp` can be written. -/
def PushOk (sp : Word) : Prop := ¬ Unimplemented (sp - 1) ∧ ¬ Unimplemented (sp - 2)

/-- The places that hold a written byte as it is: RAM and IE (20_memory.md R108). -/
def Loc.plain : Loc → Bool
  | .vram _ | .eram _ | .wram _ | .oam _ | .hram _ | .ie => true
  | .rom _ | .mbc2ram _ | .rtc _ | .openBus | .io _ => false

/-- A store to the address goes to plain memory: RAM or IE, outside the unusable region. -/
def PlainStore (s : State) (a : Word) : Prop := (locOf s a).plain = true ∧ unusable a = false

/-- A machine whose next step executes an instruction it can read. -/
structure Ready (s : State) : Prop where
  running : s.fault = none
  configured : configError s = none
  awake : s.cpu.halted = false
  mapped : Mapped s

/-! ### What is left alone -/

/-- Everything outside the CPU and the time it takes: parameters, interrupt bytes, memories, devices, host. -/
structure SameOutside (s t : State) : Prop where
  model : t.model = s.model
  cart : t.cart = s.cart
  irq : t.irq = s.irq
  mem : t.mem = s.mem
  mbc : t.mbc = s.mbc
  hdma : t.hdma = s.hdma
  timer : t.timer = s.timer
  ppu : t.ppu = s.ppu
  sound : t.sound = s.sound
  keypad : t.keypad = s.keypad
  serial : t.serial = s.serial
  host : t.host = s.host
  extra : t.extra = s.extra
  fault : t.fault = s.fault

/-- The CPU's control state (10_state.md R37 to R40). -/
structure SameControl (s t : State) : Prop where
  ime : t.cpu.ime = s.cpu.ime
  halted : t.cpu.halted = s.cpu.halted
  pending : t.cpu.pending = s.cpu.pending
  doubleSpeed : t.cpu.doubleSpeed = s.cpu.doubleSpeed
  key1Armed : t.cpu.key1Armed = s.cpu.key1Armed

/-- Every general register outside a list. -/
def SameRegsBut (ds : List Reg) (s t : State) : Prop := ∀ r, r ∉ ds → t.reg r = s.reg r

/-- Every byte the program can read. -/
def SameBytes (s t : State) : Prop := ∀ a, readByte t a = readByte s a

/-- Every byte the program can read outside one place; two addresses of one place are the same byte (20_memory.md
R113, R115). -/
def SameBytesBut (l : Loc) (s t : State) : Prop := ∀ a, locOf s a ≠ l → readByte t a = readByte s a

/-- Everything outside the CPU, memory and IE: parameters, requests, controllers, devices, host. -/
structure SameDevices (s t : State) : Prop where
  model : t.model = s.model
  cart : t.cart = s.cart
  requests : t.irq.ifByte = s.irq.ifByte
  mbc : t.mbc = s.mbc
  hdma : t.hdma = s.hdma
  timer : t.timer = s.timer
  ppu : t.ppu = s.ppu
  sound : t.sound = s.sound
  keypad : t.keypad = s.keypad
  serial : t.serial = s.serial
  host : t.host = s.host
  extra : t.extra = s.extra
  fault : t.fault = s.fault

/-! ### What each form reads, stores and writes -/

/-- The two registers of a pair; none for SP (10_state.md R30). -/
def pairRegs : R16 → List Reg
  | .bc => [.b, .c]
  | .de => [.d, .e]
  | .hl => [.h, .l]
  | .sp => []

/-- The registers `POP` writes, F apart (30_encoding.md R204). -/
def popRegs : R16Stk → List Reg
  | .bc => [.b, .c]
  | .de => [.d, .e]
  | .hl => [.h, .l]
  | .af => [.a]

/-- The registers an indirect pair updates after its use (30_encoding.md R205). -/
def indRegs : R16Mem → List Reg
  | .bc => []
  | .de => []
  | .hlInc => [.h, .l]
  | .hlDec => [.h, .l]

/-- The operation, source byte and cost of an ALU form (42_alu8.md R340). -/
def aluSource (f : Form) (s : State) : Option (AluOp × Byte × Nat) :=
  match f with
  | .alu op r =>
    match r.reg with
    | some p => some (op, s.reg p, 4)
    | none => some (op, readByte s s.hl, 8)
  | .aluImm op d => some (op, d, 8)
  | _ => none

/-- The address and byte of a form that stores one byte. -/
def byteStore (f : Form) (s : State) : Option (Word × Byte) :=
  match f with
  | .ldR8 .hlMem r => r.reg.map fun p => (s.hl, s.reg p)
  | .ldR8Imm .hlMem d => some (s.hl, d)
  | .ldIndA m => some (indAddr m s, s.cpu.a)
  | .ldMemA a => some (a, s.cpu.a)
  | .ldhStore a => some (highPage a, s.cpu.a)
  | .ldHighCA => some (highPage s.cpu.c, s.cpu.a)
  | .incR8 .hlMem => some (s.hl, readByte s s.hl + 1)
  | .decR8 .hlMem => some (s.hl, readByte s s.hl - 1)
  | .shift op .hlMem => some (s.hl, shiftResult op (readByte s s.hl) s.cf)
  | .res n .hlMem => some (s.hl, clearBitOf (readByte s s.hl) n.toNat)
  | .set n .hlMem => some (s.hl, setBitOf (readByte s s.hl) n.toNat)
  | _ => none

/-- The lower address and the word of a form that stores two bytes, low byte at the lower address. -/
def wordStore (f : Form) (s : State) : Option (Word × Word) :=
  match f with
  | .ldMemSp a => some (a, s.cpu.sp)
  | .push r => some (s.cpu.sp - 2, s.r16stk r)
  | .call _ => some (s.cpu.sp - 2, s.cpu.pc)
  | .callCc cc _ => if condHolds cc s then some (s.cpu.sp - 2, s.cpu.pc) else none
  | .rst _ => some (s.cpu.sp - 2, s.cpu.pc)
  | _ => none

/-- The forms that store nothing. The CB prefix is apart: it does what its CB row does. -/
def storesNothing : Form → Bool
  | .ldR8 dst _ => dst.reg.isSome
  | .ldR8Imm dst _ => dst.reg.isSome
  | .incR8 r => r.reg.isSome
  | .decR8 r => r.reg.isSome
  | .shift _ r => r.reg.isSome
  | .res _ r => r.reg.isSome
  | .set _ r => r.reg.isSome
  | .ldIndA _ | .ldMemA _ | .ldhStore _ | .ldHighCA | .ldMemSp _ | .push _ | .call _ | .callCc _ _ | .rst _ => false
  | .prefixCb _ => false
  | _ => true

/-- The general registers a form may write. -/
def regsWritten : Form → List Reg
  | .ldR8 dst _ => dst.reg.toList
  | .ldR8Imm dst _ => dst.reg.toList
  | .ldAInd m => .a :: indRegs m
  | .ldIndA m => indRegs m
  | .ldAMem _ | .ldhLoad _ | .ldAHighC | .aluImm _ _ | .cpl | .daa | .rotA _ => [.a]
  | .ldR16 r _ | .incR16 r | .decR16 r => pairRegs r
  | .ldHlSp _ | .addHl _ => [.h, .l]
  | .pop r => popRegs r
  | .alu op _ => if op = .cp then [] else [.a]
  | .incR8 r | .decR8 r | .shift _ r | .res _ r | .set _ r => r.reg.toList
  | _ => []

/-- The flags a form may write. -/
def flagsWritten : Form → FlagSet
  | .alu _ _ | .aluImm _ _ | .ldHlSp _ | .addSp _ | .rotA _ | .shift _ _ | .pop .af => ⟨true, true, true, true⟩
  | .incR8 _ | .decR8 _ | .bit _ _ => ⟨true, true, true, false⟩
  | .cpl => ⟨false, true, true, false⟩
  | .scf | .ccf | .addHl _ => ⟨false, true, true, true⟩
  | .daa => ⟨true, false, true, true⟩
  | _ => ⟨false, false, false, false⟩

/-- The flags outside a set are kept. -/
structure SameFlagsBut (w : FlagSet) (s t : State) : Prop where
  z : w.z = false → t.zf = s.zf
  n : w.n = false → t.nf = s.nf
  h : w.h = false → t.hf = s.hf
  c : w.c = false → t.cf = s.cf

/-- The forms that may write SP. -/
def writesSp : Form → Bool
  | .ldR16 .sp _ | .ldSpHl | .push _ | .pop _ | .incR16 .sp | .decR16 .sp | .addSp _ => true
  | .call _ | .callCc _ _ | .ret | .retCc _ | .reti | .rst _ => true
  | _ => false

/-- The control transfers. -/
def transfers : Form → Bool
  | .jp _ | .jpCc _ _ | .jpHl | .jr _ | .jrCc _ _ | .call _ | .callCc _ _ | .ret | .retCc _ | .reti | .rst _ => true
  | _ => false

/-- The instructions that write the CPU's control state (46_system.md, 45_control.md R411). -/
def writesControl : Form → Bool
  | .halt | .stop _ | .ei | .di | .reti => true
  | _ => false

/-- `cond(cc)` (45_control.md R400). -/
def Taken (cc : Cond) (s : State) : Prop :=
  match cc with
  | .nz => s.zf = false
  | .z => s.zf = true
  | .nc => s.cf = false
  | .c => s.cf = true

/-- The byte a shift or rotation gives, as a rotation or arithmetic shift of the whole byte (44_bits.md R385 to
R392). -/
def shiftedByte (op : ShiftOp) (v : Byte) (c : Bool) : Byte :=
  match op with
  | .rlc => v.rotateLeft 1
  | .rrc => v.rotateRight 1
  | .rl => BitVec.ofNat 8 (2 * v.toNat + c.toNat)
  | .rr => BitVec.ofNat 8 (v.toNat / 2 + 128 * c.toNat)
  | .sla => BitVec.ofNat 8 (2 * v.toNat)
  | .sra => v.sshiftRight 1
  | .swap => v.rotateLeft 4
  | .srl => BitVec.ofNat 8 (v.toNat / 2)

/-- The bit a shift or rotation moves out, into carry (44_bits.md R385 to R392). -/
def shiftedOut (op : ShiftOp) (v : Byte) : Bool :=
  match op with
  | .rlc | .rl | .sla => decide (128 ≤ v.toNat)
  | .rrc | .rr | .sra | .srl => decide (v.toNat % 2 = 1)
  | .swap => false

/-! ### The invariant between steps -/

/-- The CPU: F's low nibble is 0 (R36), at most one deferred effect is left and it is due in the next step (R39,
R511), a halted CPU has nothing to wake for (R508), and the CGB-only fields stay 0 on DMG (R40). -/
structure CpuInv (s : State) : Prop where
  lowNibble : s.cpu.f &&& 0x0F = 0
  pendingShort : s.cpu.pending.length ≤ 1
  pendingDue : ∀ d ∈ s.cpu.pending, d.remaining = 1
  haltedWaits : s.cpu.halted = true → s.cpu.ime = true ∧ s.requested = 0
  speedOnDmg : s.model = .dmg → s.cpu.doubleSpeed = false
  armedOnDmg : s.model = .dmg → s.cpu.key1Armed = false

/-- A memory in its canonical form with every listed address below a size. -/
def Memory.sized (m : Memory) (size : Nat) : Prop := m.wf ∧ ∀ c ∈ m, c.1 < size

/-- Every memory is in its canonical form, within the sizes of R42. -/
structure MemInv (s : State) : Prop where
  rom : s.mem.rom.wf
  vram : s.mem.vram.sized 0x4000
  eram : s.mem.eram.sized (s.cart.ramBanks * 0x2000)
  mbc2ram : s.mem.mbc2ram.sized 512
  wram : s.mem.wram.sized 0x8000
  oam : s.mem.oam.sized 160
  hram : s.mem.hram.sized 127
  io : s.mem.io.sized 0x80
  waveRam : s.sound.waveRam.sized 16
  bgPalette : s.ppu.bgPalette.sized 64
  objPalette : s.ppu.objPalette.sized 64

/-- The mode that a line and a dot of it stand for while the LCD is on (62_ppu.md R602). -/
def modeAt (ly lineDot : Nat) : PpuMode :=
  if 144 ≤ ly then .vblank
  else if lineDot < 80 then .oamScan
  else if lineDot < 252 then .transfer
  else .hblank

/-- The PPU (62_ppu.md R600, R602, R607, R608): a line and a dot that exist; the mode they stand for while the LCD
is on; line 0, dot 0 and mode 0 while it is off; the coincidence bit as last computed; a framebuffer of 144 lines of
160 pixels. -/
structure PpuInv (s : State) : Prop where
  line : s.ppu.ly < 154
  dot : s.ppu.lineDot < 456
  modeOn : s.ppu.lcdOn = true → s.ppu.mode = modeAt s.ppu.ly s.ppu.lineDot
  modeOff : s.ppu.lcdOn = false → s.ppu.ly = 0 ∧ s.ppu.lineDot = 0 ∧ s.ppu.mode = .hblank
  coincidence : s.ppu.lycEqual = decide (s.ppu.ly = s.ppu.lyc.toNat)
  lines : s.ppu.frame.length = 144
  columns : ∀ l ∈ s.ppu.frame, l.length = 160

/-- The controllers and devices: the selected banks (20_memory.md R111, R123), the transfer engine (10_state.md R47,
R8), the serial transfer bit (60_exceptions.md R535), the wave table and the sample accumulator (63_sound.md R700,
R701). -/
structure DeviceInv (s : State) : Prop where
  wramBank : s.mbc.wramBank ≠ 0
  mbc1Low5 : s.mbc.mbc1Low5 ≠ 0
  hdmaLeft : s.hdma.left ≤ 128
  hdmaOnDmg : s.model = .dmg → s.hdma.hblank = false
  serialBusy : s.serial.busy = s.serial.sc.getLsbD 7
  waveTable : s.sound.ch3.table.length = 32
  sampleAcc : s.sound.sampleAcc < cpuClockHz

/-- The timer's accumulator stays below the period while the timer is on (61_timer.md R550). -/
def TimerInv (s : State) : Prop := s.timer.tac.getLsbD 2 = true → s.timer.timaAcc < timerPeriod s.timer.tac

/-- The invariant of a state between steps. -/
structure State.Inv (s : State) : Prop where
  cpu : CpuInv s
  mem : MemInv s
  ppu : PpuInv s
  device : DeviceInv s
  timer : TimerInv s
  running : s.fault = none

end Sys2Proof.Machine
end

