-- ==== Sys2Proof/Certificates/Slice0/Obligations.lean ====
section
/-! DEFINITION. The statements for the provers. Each says in its docstring which statement of the spec it
formalises; OBLIGATIONS.json lists them. -/

open Sys2Proof Sys2Proof.Machine

/-- O1 (30_encoding.md R200, R210, R211, R212, R213, R215, R217). For every well-formed instruction, with every operand
at every value, the decoder reads the encoding as that instruction and leaves the bytes after it. -/
def Obligations.DecodeOfEncode : Prop :=
  ∀ (i : Instr) (rest : List Byte), i.wellFormed = true → decode (encode i ++ rest) = .ok (i, rest)

/-- O2 (30_encoding.md R200, R210, R211, R212, R213, R215, R217). Whenever the decoder accepts bytes, the instruction is
well formed and the bytes are its encoding followed by the rest: every word has one meaning. -/
def Obligations.EncodeOfDecode : Prop :=
  ∀ (bytes : List Byte) (i : Instr) (rest : List Byte), decode bytes = .ok (i, rest) →
    i.wellFormed = true ∧ bytes = encode i ++ rest

/-- O3 (95_test_vectors.md section 2.1, 30_encoding.md R212, R213, R215). The decoding vectors of 95_test_vectors.md
section 2.1, each byte as the spec writes it. -/
def Obligations.SpecWordsDecode : Prop :=
  decode [0x00] = .ok (.NOP, []) ∧
  decode [0x7C] = .ok (.LD_A_H, []) ∧
  decode [0x46] = .ok (.LD_B__HL, []) ∧
  decode [0x76] = .ok (.HALT, []) ∧
  decode [0x36, 0x7F] = .ok (.LD__HL__d8 0x7F, []) ∧
  decode [0xC3, 0x50, 0x01] = .ok (.JP_a16 0x0150, []) ∧
  decode [0x20, 0xFB] = .ok (.JR_NZ_e8 0xFB, []) ∧
  decode [0xE8, 0xFE] = .ok (.ADD_SP_e8 0xFE, []) ∧
  decode [0xF8, 0x80] = .ok (.LD_HL_SPplus_e8 0x80, []) ∧
  decode [0xCB, 0x7C] = .ok (.BIT_7_H, []) ∧
  decode [0xCB, 0x36] = .ok (.SWAP__HL, []) ∧
  decode [0xCB, 0x46] = .ok (.BIT_0__HL, []) ∧
  decode [0xCB, 0xFF] = .ok (.SET_7_A, []) ∧
  decode [0x10, 0x00] = .ok (.STOP 0x00, []) ∧
  decode [0x10, 0x01] = .error (.stopSecondByte 0x01) ∧
  decode [0xD3] = .ok (.ILLEGAL_0xD3, []) ∧
  decode [0xD9] = .ok (.RETI, []) ∧
  decode [0xE2] = .ok (.LD__C__A, [])

/-- O4 (30_encoding.md R201, R202, R203, R204, R205, R206, R207, R208, R211, R212). The encodings of the instruction
classes by the fields x, y, z and p, q of R201, with the operand codes of R202 to R208, as the map by fields under
R212 and each class of files 40 to 46 gives them. -/
def Obligations.EncodingByFields : Prop :=
  ∀ i : Instr,
    (∀ d r, i.form = .ldR8 d r → encode i = [fieldByte 1 d.code r.code]) ∧
    (∀ d n, i.form = .ldR8Imm d n → encode i = [fieldByte 0 d.code 6, n]) ∧
    (∀ m, i.form = .ldIndA m → encode i = [fieldByte 0 (2 * m.code) 2]) ∧
    (∀ m, i.form = .ldAInd m → encode i = [fieldByte 0 (2 * m.code + 1) 2]) ∧
    (∀ r d, i.form = .ldR16 r d → encode i = [fieldByte 0 (2 * r.code) 1, loByte d, hiByte d]) ∧
    (∀ r, i.form = .push r → encode i = [fieldByte 3 (2 * r.code) 5]) ∧
    (∀ r, i.form = .pop r → encode i = [fieldByte 3 (2 * r.code) 1]) ∧
    (∀ op r, i.form = .alu op r → encode i = [fieldByte 2 op.code r.code]) ∧
    (∀ op n, i.form = .aluImm op n → encode i = [fieldByte 3 op.code 6, n]) ∧
    (∀ r, i.form = .incR8 r → encode i = [fieldByte 0 r.code 4]) ∧
    (∀ r, i.form = .decR8 r → encode i = [fieldByte 0 r.code 5]) ∧
    (∀ r, i.form = .incR16 r → encode i = [fieldByte 0 (2 * r.code) 3]) ∧
    (∀ r, i.form = .decR16 r → encode i = [fieldByte 0 (2 * r.code + 1) 3]) ∧
    (∀ r, i.form = .addHl r → encode i = [fieldByte 0 (2 * r.code + 1) 1]) ∧
    (∀ op, i.form = .rotA op → encode i = [fieldByte 0 op.code 7]) ∧
    (∀ op r, i.form = .shift op r → encode i = [0xCB, fieldByte 0 op.code r.code]) ∧
    (∀ n r, i.form = .bit n r → encode i = [0xCB, fieldByte 1 (n.zeroExtend 8) r.code]) ∧
    (∀ n r, i.form = .res n r → encode i = [0xCB, fieldByte 2 (n.zeroExtend 8) r.code]) ∧
    (∀ n r, i.form = .set n r → encode i = [0xCB, fieldByte 3 (n.zeroExtend 8) r.code]) ∧
    (∀ cc a, i.form = .jpCc cc a → encode i = [fieldByte 3 cc.code 2, loByte a, hiByte a]) ∧
    (∀ cc e, i.form = .jrCc cc e → encode i = [fieldByte 0 (cc.code + 4) 0, e]) ∧
    (∀ cc a, i.form = .callCc cc a → encode i = [fieldByte 3 cc.code 4, loByte a, hiByte a]) ∧
    (∀ cc, i.form = .retCc cc → encode i = [fieldByte 3 cc.code 0]) ∧
    (∀ n, i.form = .rst n → encode i = [fieldByte 3 (n.zeroExtend 8) 7])

/-- O5 (R213). After 0xCB every second byte decodes, in one instruction, to the shift, BIT, RES or SET that its fields
name. -/
def Obligations.CbMapByFields : Prop :=
  ∀ (c : Byte) (rest : List Byte),
    decode (0xCB :: c :: rest) = .ok (cbInstr c, rest) ∧ (cbInstr c).form = cbFields c

/-- O6 (R214, R426). Each of the eleven bytes is an illegal opcode and no other opcode is; executing one is the fault
IllegalOpcode with the register dump; a step that fetches one faults with PC past the byte. That 0x10 before a byte
other than 0x00 ends the run with the same fault (R215) is StopSwitchesSpeed. -/
def Obligations.IllegalOpcodesStop : Prop :=
  (∀ op : Byte, op ∈ ([0xD3, 0xDB, 0xDD, 0xE3, 0xE4, 0xEB, 0xEC, 0xED, 0xF4, 0xFC, 0xFD] : List Byte) ↔
    ∃ i : Instr, i.form = .illegal op ∧ decode [op] = .ok (i, [])) ∧
  (∀ (i : Instr) (op : Byte) (s : State), i.form = .illegal op →
    exec i s = .fault (.illegalOpcode op { s with fault := some (.illegalOpcode op) })) ∧
  (∀ (s : State) (op : Byte), Ready s → readByte s s.cpu.pc = op →
    op ∈ ([0xD3, 0xDB, 0xDD, 0xE3, 0xE4, 0xEB, 0xEC, 0xED, 0xF4, 0xFC, 0xFD] : List Byte) →
    step s = .fault (.illegalOpcode op
      { s.setPc (s.cpu.pc + 1) with extra := 0, fault := some (.illegalOpcode op) }))

/-- O7 (R215, R423). STOP on CGB with KEY1 armed toggles double_speed, disarms and costs 4; on DMG or not armed it is
the fault StopNotArmed; with a second byte other than 0x00 it is the fault IllegalOpcode 0x10, in exec and in a step
that fetches it (PC past both bytes). -/
def Obligations.StopSwitchesSpeed : Prop :=
  (∀ (i : Instr) (b : Byte) (s : State), i.form = .stop b →
    (b = 0 → s.model = .cgb → s.cpu.key1Armed = true →
      exec i s = .next (({ s with cpu :=
        { s.cpu with doubleSpeed := !s.cpu.doubleSpeed, key1Armed := false } } : State).setCost 4)) ∧
    (b = 0 → ¬ (s.model = .cgb ∧ s.cpu.key1Armed = true) →
      exec i s = .fault (.stopNotArmed { s with fault := some .stopNotArmed })) ∧
    (b ≠ 0 → exec i s = .fault (.illegalOpcode 0x10 { s with fault := some (.illegalOpcode 0x10) }))) ∧
  (∀ s : State, Ready s → readByte s s.cpu.pc = 0x10 → readByte s (s.cpu.pc + 1) ≠ 0 →
    step s = .fault (.illegalOpcode 0x10
      { s.setPc (s.cpu.pc + 2) with extra := 0, fault := some (.illegalOpcode 0x10) }))

/-- O8 (R210, R510). When the bytes at PC decode to an instruction, the step is its exec with PC past its bytes and
extra 0; then c is its cost plus extra plus stall, the deferred effects act, the timer, PPU and sound advance by c
(the PPU and sound by half at the speed the step began with), the serial tick, the halt exit and the interrupt check
follow. -/
def Obligations.StepRunsDecodedInstruction : Prop :=
  ∀ (s : State) (i : Instr) (rest : List Byte), Ready s →
    decode [readByte s s.cpu.pc, readByte s (s.cpu.pc + 1), readByte s (s.cpu.pc + 2)] = .ok (i, rest) →
    step s = andThen (exec i { s.setPc (s.cpu.pc + BitVec.ofNat 16 i.length) with extra := 0 }) fun t =>
      let c := t.cost + t.extra + t.hdma.stall
      let dots := if s.cpu.doubleSpeed then c / 2 else c
      andThen (ppuAdvance dots
        (timerAdvance c (applyPending { t with hdma := { t.hdma with stall := 0 } }))) fun u =>
        dispatch (haltExit (serialTick (soundAdvance dots u)))

/-- O9 (R510). While halted, a step executes no instruction: c is 4 plus the stall, and the phases b to e follow as in
every step. -/
def Obligations.HaltedStepWaits : Prop :=
  ∀ s : State, s.fault = none → configError s = none → s.cpu.halted = true →
    step s =
      let c := 4 + s.hdma.stall
      let dots := if s.cpu.doubleSpeed then c / 2 else c
      andThen (ppuAdvance dots (timerAdvance c (applyPending
        { s.setCost 4 with extra := 0, hdma := { s.hdma with stall := 0 } }))) fun u =>
        dispatch (haltExit (serialTick (soundAdvance dots u)))

/-- O10 (10_state.md R41, 60_exceptions.md R520, 00_scope.md R3, R9, 70_reset_and_hazards.md R800). A step of a machine
that has stopped answers the stop it recorded, with the state unchanged: R41 says that no further step is taken, the
repeated answer is the model's (log entry 15). A machine asked to run the super-console model is refused; so is one
with fewer than two ROM banks, which is the model's reading of R9 and R520, and which of the two is recorded where
both hold is its choice (log entry 16). A header is refused exactly when its type byte is outside the table or a
size byte outside the decodes; a launch with a refused header, or of the super-console model, has the reason
recorded and takes no step; any other starts, as R800 says, with the banks the decodes give. With one wrong byte the
reason is that byte. That a refused launch has a state at all, and which, is the model's (log entry 16). -/
def Obligations.StoppedMachineTakesNoStep : Prop :=
  (∀ (s : State) (op : Byte), s.fault = some (.illegalOpcode op) → step s = .fault (.illegalOpcode op s)) ∧
  (∀ s : State, s.fault = some .stopNotArmed → step s = .fault (.stopNotArmed s)) ∧
  (∀ (s : State) (a : Word), s.fault = some (.unimplementedIOWrite a) → step s = .fault (.unimplementedIOWrite a s)) ∧
  (∀ (s : State) (a : Word), s.fault = some (.mmm01 a) → step s = .refused (.mmm01 a s)) ∧
  (∀ (s : State) (e : ConfigError), s.fault = some (.configuration e) → step s = .refused (.configuration e s)) ∧
  (∀ s : State, s.fault = none → s.model = .sgb →
    step s = .refused (.configuration .superConsole { s with fault := some (.configuration .superConsole) })) ∧
  (∀ s : State, s.fault = none → s.model ≠ .sgb → s.cart.romBanks < 2 →
    step s = .refused (.configuration .romBanksBelowTwo { s with fault := some (.configuration .romBanksBelowTwo) })) ∧
  (∀ t r a : Byte,
    let typed : Prop := t ∈ ([0x00, 0x01, 0x02, 0x03, 0x05, 0x06, 0x08, 0x09, 0x0B, 0x0C, 0x0D, 0x0F, 0x10, 0x11, 0x12,
      0x13, 0x19, 0x1A, 0x1B, 0x1C, 0x1D, 0x1E] : List Byte)
    let romSized : Prop := r.toNat ≤ 6 ∨ r = 0x52 ∨ r = 0x53 ∨ r = 0x54
    let ramSized : Prop := a.toNat ≤ 4
    ((∃ e, Cart.ofHeader t r a = .error e) ↔ ¬ (typed ∧ romSized ∧ ramSized)) ∧
    (¬ typed → romSized → ramSized → Cart.ofHeader t r a = .error (.cartridgeType t)) ∧
    (typed → ¬ romSized → ramSized → Cart.ofHeader t r a = .error (.romSizeCode r)) ∧
    (typed → romSized → ¬ ramSized → Cart.ofHeader t r a = .error (.ramSizeCode a)) ∧
    ∀ c, Cart.ofHeader t r a = .ok c →
      (r.toNat ≤ 6 → c.romBanks = 2 ^ (r.toNat + 1)) ∧ (r = 0x52 → c.romBanks = 72) ∧ (r = 0x53 → c.romBanks = 80) ∧
      (r = 0x54 → c.romBanks = 96) ∧ [0, 1, 1, 4, 16][a.toNat]? = some c.ramBanks) ∧
  (∀ (m : Model) (t r a : Byte) (mapped : Bool) (rom ram cells : Memory),
    let s := State.launch m t r a mapped rom ram cells
    (∀ e, Cart.ofHeader t r a = .error e →
      s.fault = some (.configuration e) ∧ step s = .refused (.configuration e s)) ∧
    (∀ c, Cart.ofHeader t r a = .ok c → m = .sgb →
      s.fault = some (.configuration .superConsole) ∧ step s = .refused (.configuration .superConsole s)) ∧
    (∀ c, Cart.ofHeader t r a = .ok c → m ≠ .sgb →
      s = State.init m { c with mmm01Mapped := mapped } rom ram cells)) ∧
  State.reset = State.launch .dmg 0x00 0x00 0x00 false [] [] []

/-- O11 (R301, R302). Register-to-register and immediate loads write the destination register, change nothing else and
cost 4 and 8. -/
def Obligations.LoadRegister : Prop :=
  ∀ (i : Instr) (s : State) (d : R8) (p : Reg), d.reg = some p →
    (∀ r q, i.form = .ldR8 d r → r.reg = some q → exec i s = .next ((s.setReg p (s.reg q)).setCost 4)) ∧
    (∀ n, i.form = .ldR8Imm d n → exec i s = .next ((s.setReg p n).setCost 8))

/-- O12 (R303, R306, R308, R309, R312, R314, R316). Every byte load from memory writes the byte its address reads as;
the post-increment and post-decrement forms then move HL by one, modulo 2^16; nothing else changes, and each costs
what its rule gives. The cartridge is one whose mapping is known. -/
def Obligations.LoadFromMemory : Prop :=
  ∀ (i : Instr) (s : State), Mapped s →
    (∀ d p, i.form = .ldR8 d .hlMem → d.reg = some p →
      exec i s = .next ((s.setReg p (readByte s s.hl)).setCost 8)) ∧
    (i.form = .ldAInd .bc → exec i s = .next ((s.setReg .a (readByte s s.bc)).setCost 8)) ∧
    (i.form = .ldAInd .de → exec i s = .next ((s.setReg .a (readByte s s.de)).setCost 8)) ∧
    (i.form = .ldAInd .hlInc →
      exec i s = .next (((s.setReg .a (readByte s s.hl)).setR16 .hl (s.hl + 1)).setCost 8)) ∧
    (i.form = .ldAInd .hlDec →
      exec i s = .next (((s.setReg .a (readByte s s.hl)).setR16 .hl (s.hl - 1)).setCost 8)) ∧
    (∀ a, i.form = .ldAMem a → exec i s = .next ((s.setReg .a (readByte s a)).setCost 16)) ∧
    (∀ a, i.form = .ldhLoad a →
      exec i s = .next ((s.setReg .a (readByte s (0xFF00 + a.zeroExtend 16))).setCost 12)) ∧
    (i.form = .ldAHighC →
      exec i s = .next ((s.setReg .a (readByte s (0xFF00 + s.cpu.c.zeroExtend 16))).setCost 8))

/-- O13 (R304, R305, R307, R310, R311, R313, R315, R317). Every byte store completes at every address but an
unimplemented I/O one: it performs MemWrite of its byte at its address, then the post-increment and post-decrement
forms move HL, and it costs what its rule gives; at an unimplemented I/O address it is the fault that names the
address. -/
def Obligations.StoreByte : Prop :=
  ∀ (i : Instr) (s : State), Mapped s →
    (∀ r p, i.form = .ldR8 .hlMem r → r.reg = some p →
      (¬ Unimplemented s.hl →
        ∃ t, memWrite s s.hl (s.reg p) = .next t ∧ exec i s = .next (t.setCost 8)) ∧
      (Unimplemented s.hl → exec i s = .fault (.unimplementedIOWrite s.hl
        { s with fault := some (.unimplementedIOWrite s.hl) }))) ∧
    (∀ n, i.form = .ldR8Imm .hlMem n →
      (¬ Unimplemented s.hl → ∃ t, memWrite s s.hl n = .next t ∧ exec i s = .next (t.setCost 12)) ∧
      (Unimplemented s.hl → exec i s = .fault (.unimplementedIOWrite s.hl
        { s with fault := some (.unimplementedIOWrite s.hl) }))) ∧
    (i.form = .ldIndA .bc →
      (¬ Unimplemented s.bc → ∃ t, memWrite s s.bc s.cpu.a = .next t ∧ exec i s = .next (t.setCost 8)) ∧
      (Unimplemented s.bc → exec i s = .fault (.unimplementedIOWrite s.bc
        { s with fault := some (.unimplementedIOWrite s.bc) }))) ∧
    (i.form = .ldIndA .de →
      (¬ Unimplemented s.de → ∃ t, memWrite s s.de s.cpu.a = .next t ∧ exec i s = .next (t.setCost 8)) ∧
      (Unimplemented s.de → exec i s = .fault (.unimplementedIOWrite s.de
        { s with fault := some (.unimplementedIOWrite s.de) }))) ∧
    (i.form = .ldIndA .hlInc →
      (¬ Unimplemented s.hl → ∃ t, memWrite s s.hl s.cpu.a = .next t ∧
        exec i s = .next ((t.setR16 .hl (s.hl + 1)).setCost 8)) ∧
      (Unimplemented s.hl → exec i s = .fault (.unimplementedIOWrite s.hl
        { s with fault := some (.unimplementedIOWrite s.hl) }))) ∧
    (i.form = .ldIndA .hlDec →
      (¬ Unimplemented s.hl → ∃ t, memWrite s s.hl s.cpu.a = .next t ∧
        exec i s = .next ((t.setR16 .hl (s.hl - 1)).setCost 8)) ∧
      (Unimplemented s.hl → exec i s = .fault (.unimplementedIOWrite s.hl
        { s with fault := some (.unimplementedIOWrite s.hl) }))) ∧
    (∀ a, i.form = .ldMemA a →
      (¬ Unimplemented a → ∃ t, memWrite s a s.cpu.a = .next t ∧ exec i s = .next (t.setCost 16)) ∧
      (Unimplemented a → exec i s = .fault (.unimplementedIOWrite a
        { s with fault := some (.unimplementedIOWrite a) }))) ∧
    (∀ n, i.form = .ldhStore n →
      (¬ Unimplemented (0xFF00 + n.zeroExtend 16) →
        ∃ t, memWrite s (0xFF00 + n.zeroExtend 16) s.cpu.a = .next t ∧ exec i s = .next (t.setCost 12)) ∧
      (Unimplemented (0xFF00 + n.zeroExtend 16) → exec i s = .fault (.unimplementedIOWrite (0xFF00 + n.zeroExtend 16)
        { s with fault := some (.unimplementedIOWrite (0xFF00 + n.zeroExtend 16)) }))) ∧
    (i.form = .ldHighCA →
      (¬ Unimplemented (0xFF00 + s.cpu.c.zeroExtend 16) →
        ∃ t, memWrite s (0xFF00 + s.cpu.c.zeroExtend 16) s.cpu.a = .next t ∧ exec i s = .next (t.setCost 8)) ∧
      (Unimplemented (0xFF00 + s.cpu.c.zeroExtend 16) →
        exec i s = .fault (.unimplementedIOWrite (0xFF00 + s.cpu.c.zeroExtend 16)
          { s with fault := some (.unimplementedIOWrite (0xFF00 + s.cpu.c.zeroExtend 16)) })))

/-- O14 (R320, R322, R323, R326). The 16-bit loads write the pair or SP; LD HL,SP+e8 takes HF and CF from the unsigned
addition of the low byte of SP and the raw byte, whatever its sign, and clears ZF and NF, as ADD SP,e8 does too. -/
def Obligations.LoadWord : Prop :=
  ∀ (i : Instr) (s : State),
    (∀ r d, i.form = .ldR16 r d → exec i s = .next ((s.setR16 r d).setCost 12)) ∧
    (i.form = .ldSpHl → exec i s = .next ((s.setSp s.hl).setCost 8)) ∧
    (∀ e, i.form = .ldHlSp e → exec i s = .next
      (((s.setR16 .hl (s.cpu.sp + e.signExtend 16)).setFlags false false
        (decide (s.cpu.sp.toNat % 16 + e.toNat % 16 > 15))
        (decide (s.cpu.sp.toNat % 256 + e.toNat > 255))).setCost 12)) ∧
    (∀ e, i.form = .addSp e → exec i s = .next
      (((s.setSp (s.cpu.sp + e.signExtend 16)).setFlags false false
        (decide (s.cpu.sp.toNat % 16 + e.toNat % 16 > 15))
        (decide (s.cpu.sp.toNat % 256 + e.toNat > 255))).setCost 16))

/-- O15 (R321). LD (a16),SP performs two writes, the low byte of SP first at a16, then the high byte at a16 + 1 modulo
2^16, and costs 20; it completes where neither address is an unimplemented I/O one. -/
def Obligations.StoreStackPointer : Prop :=
  ∀ (i : Instr) (s : State) (a : Word), i.form = .ldMemSp a → Mapped s →
    ¬ Unimplemented a → ¬ Unimplemented (a + 1) →
    ∃ t u, memWrite s a (loByte s.cpu.sp) = .next t ∧ memWrite t (a + 1) (hiByte s.cpu.sp) = .next u ∧
      exec i s = .next (u.setCost 20)

/-- O16 (R324). PUSH decrements SP before each of its two writes, the high byte first, and costs 16; it completes where
neither stack address is an unimplemented I/O one. -/
def Obligations.PushPair : Prop :=
  ∀ (i : Instr) (s : State) (r : R16Stk), i.form = .push r → Mapped s → PushOk s.cpu.sp →
    ∃ t u, memWrite (s.setSp (s.cpu.sp - 1)) (s.cpu.sp - 1) (hiByte (s.r16stk r)) = .next t ∧
      memWrite (t.setSp (s.cpu.sp - 2)) (s.cpu.sp - 2) (loByte (s.r16stk r)) = .next u ∧
      u.cpu.sp = s.cpu.sp - 2 ∧ exec i s = .next (u.setCost 16)

/-- O17 (R325, R327). POP loads the pair from the two bytes at SP, moves SP up by two and costs 12; POP AF writes the
high nibble of the popped low byte to F and clears its low nibble. -/
def Obligations.PopPair : Prop :=
  ∀ (i : Instr) (s : State), Mapped s →
    (i.form = .pop .bc → exec i s = .next (({ s with cpu := { s.cpu with
      b := readByte s (s.cpu.sp + 1), c := readByte s s.cpu.sp, sp := s.cpu.sp + 2 } } : State).setCost 12)) ∧
    (i.form = .pop .de → exec i s = .next (({ s with cpu := { s.cpu with
      d := readByte s (s.cpu.sp + 1), e := readByte s s.cpu.sp, sp := s.cpu.sp + 2 } } : State).setCost 12)) ∧
    (i.form = .pop .hl → exec i s = .next (({ s with cpu := { s.cpu with
      h := readByte s (s.cpu.sp + 1), l := readByte s s.cpu.sp, sp := s.cpu.sp + 2 } } : State).setCost 12)) ∧
    (i.form = .pop .af → exec i s = .next (({ s with cpu := { s.cpu with
      a := readByte s (s.cpu.sp + 1), f := readByte s s.cpu.sp &&& 0xF0, sp := s.cpu.sp + 2 } } : State).setCost 12))

/-- O18 (R340, R341, R342, R343, R344, R348). With a, b and k the values of A, of the source (a register, the byte at
HL, or the immediate) and of carry as exact integers: each arithmetic operation writes its result modulo 256 to A
(CP leaves A) and the four flags by the formulas of its rule, for the cost of its source form. -/
def Obligations.AluArithmetic : Prop :=
  ∀ (i : Instr) (s : State) (op : AluOp) (v : Byte) (n : Nat), Mapped s →
    aluSource i.form s = some (op, v, n) →
    let a := s.cpu.a.toNat
    let b := v.toNat
    let k := s.cf.toNat
    (op = .add → exec i s = .next (((s.setReg .a (BitVec.ofNat 8 (a + b))).setFlags
      (decide ((a + b) % 256 = 0)) false (decide (a % 16 + b % 16 ≥ 16)) (decide (a + b ≥ 256))).setCost n)) ∧
    (op = .adc → exec i s = .next (((s.setReg .a (BitVec.ofNat 8 (a + b + k))).setFlags
      (decide ((a + b + k) % 256 = 0)) false (decide (a % 16 + b % 16 + k ≥ 16))
      (decide (a + b + k ≥ 256))).setCost n)) ∧
    (op = .sub → exec i s = .next (((s.setReg .a (BitVec.ofNat 8 (256 + a - b))).setFlags
      (decide ((256 + a - b) % 256 = 0)) true (decide (a % 16 < b % 16)) (decide (a < b))).setCost n)) ∧
    (op = .sbc → exec i s = .next (((s.setReg .a (BitVec.ofNat 8 (512 + a - b - k))).setFlags
      (decide ((512 + a - b - k) % 256 = 0)) true (decide (a % 16 < b % 16 + k))
      (decide (a < b + k))).setCost n)) ∧
    (op = .cp → exec i s = .next ((s.setFlags
      (decide (a = b)) true (decide (a % 16 < b % 16)) (decide (a < b))).setCost n))

/-- O19 (R345, R346, R347). The logic operations write A; ZF says whether the result is 0, NF and CF are cleared, HF is
set by AND and cleared by XOR and OR; each costs what its source form costs. -/
def Obligations.AluLogic : Prop :=
  ∀ (i : Instr) (s : State) (op : AluOp) (v : Byte) (n : Nat), Mapped s →
    aluSource i.form s = some (op, v, n) →
    (op = .and → exec i s = .next (((s.setReg .a (s.cpu.a &&& v)).setFlags
      (decide (s.cpu.a &&& v = 0)) false true false).setCost n)) ∧
    (op = .xor → exec i s = .next (((s.setReg .a (s.cpu.a ^^^ v)).setFlags
      (decide (s.cpu.a ^^^ v = 0)) false false false).setCost n)) ∧
    (op = .or → exec i s = .next (((s.setReg .a (s.cpu.a ||| v)).setFlags
      (decide (s.cpu.a ||| v = 0)) false false false).setCost n))

/-- O20 (R349, R350). INC and DEC of a register, and of the byte at HL (one read, then one write, completing where HL is
no unimplemented I/O address), give the value and flags of their rules and keep carry; 4 ticks on a register, 12 on
(HL). -/
def Obligations.IncrementDecrement : Prop :=
  ∀ (i : Instr) (s : State) (r : R8),
    (i.form = .incR8 r →
      (∀ p, r.reg = some p → exec i s = .next (((s.setReg p (BitVec.ofNat 8 ((s.reg p).toNat + 1))).setFlags
        (decide ((s.reg p).toNat = 255)) false (decide ((s.reg p).toNat % 16 = 15)) s.cf).setCost 4)) ∧
      (r.reg = none → Mapped s → ¬ Unimplemented s.hl →
        ∃ t, memWrite s s.hl (BitVec.ofNat 8 ((readByte s s.hl).toNat + 1)) = .next t ∧
          exec i s = .next ((t.setFlags (decide ((readByte s s.hl).toNat = 255)) false
            (decide ((readByte s s.hl).toNat % 16 = 15)) s.cf).setCost 12))) ∧
    (i.form = .decR8 r →
      (∀ p, r.reg = some p → exec i s = .next (((s.setReg p (BitVec.ofNat 8 ((s.reg p).toNat + 255))).setFlags
        (decide ((s.reg p).toNat = 1)) true (decide ((s.reg p).toNat % 16 = 0)) s.cf).setCost 4)) ∧
      (r.reg = none → Mapped s → ¬ Unimplemented s.hl →
        ∃ t, memWrite s s.hl (BitVec.ofNat 8 ((readByte s s.hl).toNat + 255)) = .next t ∧
          exec i s = .next ((t.setFlags (decide ((readByte s s.hl).toNat = 1)) true
            (decide ((readByte s s.hl).toNat % 16 = 0)) s.cf).setCost 12)))

/-- O21 (R351, R352, R353, R354). CPL complements A and sets NF, HF; SCF sets CF and CCF inverts it, both clearing NF,
HF; DAA corrects A by 0x60 and 0x06 as NF, HF and CF direct, sets ZF from the result, clears HF and keeps NF. Each
costs 4. -/
def Obligations.AccumulatorAdjust : Prop :=
  ∀ (i : Instr) (s : State),
    (i.form = .cpl → exec i s = .next (((s.setReg .a (255 - s.cpu.a)).setFlags s.zf true true s.cf).setCost 4)) ∧
    (i.form = .scf → exec i s = .next ((s.setFlags s.zf false false true).setCost 4)) ∧
    (i.form = .ccf → exec i s = .next ((s.setFlags s.zf false false (!s.cf)).setCost 4)) ∧
    (i.form = .daa → s.nf = false →
      let high := s.cf || decide (s.cpu.a.toNat > 0x99)
      let low := s.hf || decide (s.cpu.a.toNat % 16 > 9)
      let r := s.cpu.a.toNat + (if high then 0x60 else 0) + (if low then 0x06 else 0)
      exec i s = .next (((s.setReg .a (BitVec.ofNat 8 r)).setFlags
        (decide (r % 256 = 0)) false false high).setCost 4)) ∧
    (i.form = .daa → s.nf = true →
      let r := 256 + s.cpu.a.toNat - (if s.cf then 0x60 else 0) - (if s.hf then 0x06 else 0)
      exec i s = .next (((s.setReg .a (BitVec.ofNat 8 r)).setFlags
        (decide (r % 256 = 0)) true false s.cf).setCost 4))

/-- O22 (42_alu8.md R341, R343, R354). With A and B holding two decimal digits each, ADD A,B then DAA leaves the decimal
sum modulo 100 with the decimal carry in CF, and SUB B then DAA the decimal difference modulo 100 with the decimal
borrow. -/
def Obligations.DecimalSums : Prop :=
  ∀ (s : State) (x y : Nat), x < 100 → y < 100 →
    s.cpu.a = BitVec.ofNat 8 (x / 10 * 16 + x % 10) → s.cpu.b = BitVec.ofNat 8 (y / 10 * 16 + y % 10) →
    (∃ t u, exec .ADD_A_B s = .next t ∧ exec .DAA t = .next u ∧
      u.cpu.a = BitVec.ofNat 8 ((x + y) % 100 / 10 * 16 + (x + y) % 100 % 10) ∧ u.cf = decide (100 ≤ x + y)) ∧
    (∃ t u, exec .SUB_B s = .next t ∧ exec .DAA t = .next u ∧
      u.cpu.a = BitVec.ofNat 8 ((100 + x - y) % 100 / 10 * 16 + (100 + x - y) % 100 % 10) ∧ u.cf = decide (x < y))

/-- O23 (R370, R371, R372, R373). INC rr and DEC rr change the pair or SP by one modulo 2^16 and no flag; ADD HL,rr
takes HF from bit 11 and CF from bit 15, clears NF and keeps ZF; ADD SP,e8 follows the law of the low byte. -/
def Obligations.WordArithmetic : Prop :=
  ∀ (i : Instr) (s : State),
    (∀ r, i.form = .incR16 r → exec i s = .next ((s.setR16 r (s.r16 r + 1)).setCost 8)) ∧
    (∀ r, i.form = .decR16 r → exec i s = .next ((s.setR16 r (s.r16 r - 1)).setCost 8)) ∧
    (∀ r, i.form = .addHl r → exec i s = .next
      (((s.setR16 .hl (BitVec.ofNat 16 (s.hl.toNat + (s.r16 r).toNat))).setFlags s.zf false
        (decide (s.hl.toNat % 4096 + (s.r16 r).toNat % 4096 > 4095))
        (decide (s.hl.toNat + (s.r16 r).toNat > 65535))).setCost 8)) ∧
    (∀ e, i.form = .addSp e → exec i s = .next
      (((s.setSp (s.cpu.sp + e.signExtend 16)).setFlags false false
        (decide (s.cpu.sp.toNat % 16 + e.toNat % 16 > 15))
        (decide (s.cpu.sp.toNat % 256 + e.toNat > 255))).setCost 16))

/-- O24 (R380, R381, R382, R383). The four rotations of A rotate it circularly or through carry; CF takes the outgoing
bit; ZF, NF and HF are cleared whatever the result; each costs 4. -/
def Obligations.RotateAccumulator : Prop :=
  ∀ (i : Instr) (s : State) (op : ShiftOp), i.form = .rotA op →
    exec i s = .next (((s.setReg .a (shiftedByte op s.cpu.a s.cf)).setFlags
      false false false (shiftedOut op s.cpu.a)).setCost 4) ∧
    (op = .rlc ∨ op = .rrc ∨ op = .rl ∨ op = .rr)

/-- O25 (R385, R386, R387, R388, R389, R390, R391, R392). RLC, RRC, RL, RR, SLA, SRA, SWAP and SRL write the shifted
operand; ZF says whether it is 0, NF and HF are cleared, CF takes the bit moved out (SWAP clears it); 8 ticks on a
register, 16 on (HL), which is read once and written once. -/
def Obligations.ShiftAndRotate : Prop :=
  ∀ (i : Instr) (s : State) (op : ShiftOp) (r : R8), i.form = .shift op r →
    (∀ p, r.reg = some p →
      exec i s = .next (((s.setReg p (shiftedByte op (s.reg p) s.cf)).setFlags
        (decide (shiftedByte op (s.reg p) s.cf = 0)) false false (shiftedOut op (s.reg p))).setCost 8)) ∧
    (r.reg = none → Mapped s → ¬ Unimplemented s.hl →
      ∃ t, memWrite s s.hl (shiftedByte op (readByte s s.hl) s.cf) = .next t ∧
        exec i s = .next ((t.setFlags (decide (shiftedByte op (readByte s s.hl) s.cf = 0)) false false
          (shiftedOut op (readByte s s.hl))).setCost 16))

/-- O26 (R393). BIT b on a register or on the byte at HL writes only the flags: ZF the complement of the bit, NF 0, HF
1, CF kept; 8 ticks, 12 on (HL). -/
def Obligations.TestBit : Prop :=
  ∀ (i : Instr) (s : State) (n : BitVec 3) (r : R8), i.form = .bit n r →
    (∀ p, r.reg = some p →
      exec i s = .next ((s.setFlags (!(s.reg p).getLsbD n.toNat) false true s.cf).setCost 8)) ∧
    (r.reg = none → Mapped s →
      exec i s = .next ((s.setFlags (!(readByte s s.hl).getLsbD n.toNat) false true s.cf).setCost 12))

/-- O27 (R394, R395). RES b clears and SET b sets bit b of the register or of the byte at HL; every other bit, and every
flag, is kept; 8 ticks on a register, 16 on (HL). -/
def Obligations.ResetAndSetBit : Prop :=
  ∀ (i : Instr) (s : State) (n : BitVec 3) (r : R8),
    (i.form = .res n r →
      (∀ p, r.reg = some p →
        exec i s = .next ((s.setReg p (s.reg p &&& ~~~(1#8 <<< n.toNat))).setCost 8)) ∧
      (r.reg = none → Mapped s → ¬ Unimplemented s.hl →
        ∃ t, memWrite s s.hl (readByte s s.hl &&& ~~~(1#8 <<< n.toNat)) = .next t ∧
          exec i s = .next (t.setCost 16))) ∧
    (i.form = .set n r →
      (∀ p, r.reg = some p →
        exec i s = .next ((s.setReg p (s.reg p ||| (1#8 <<< n.toNat))).setCost 8)) ∧
      (r.reg = none → Mapped s → ¬ Unimplemented s.hl →
        ∃ t, memWrite s s.hl (readByte s s.hl ||| (1#8 <<< n.toNat)) = .next t ∧
          exec i s = .next (t.setCost 16)))

/-- O28 (R421). Executing the prefix 0xCB with the byte c is executing the CB instruction c, as one instruction; it
completes wherever HL is no unimplemented I/O address. -/
def Obligations.CbPrefixIsItsCbRow : Prop :=
  ∀ (i : Instr) (c : Byte) (s : State), i.form = .prefixCb c →
    exec i s = exec (cbInstr c) s ∧
    (Mapped s → ¬ Unimplemented s.hl → ∃ t, exec (cbInstr c) s = .next t ∧ exec i s = .next t)

/-- O29 (R400, R401, R402, R403, R404, R405). Absolute, register and relative jumps write PC (relative targets from the
address after the instruction, modulo 2^16) and nothing else; a conditional one not taken leaves PC after the
instruction; each costs what its rule gives. -/
def Obligations.Jumps : Prop :=
  ∀ (i : Instr) (s : State),
    (∀ a, i.form = .jp a → exec i s = .next ((s.setPc a).setCost 16)) ∧
    (∀ cc a, i.form = .jpCc cc a →
      (Taken cc s → exec i s = .next ((s.setPc a).setCost 16)) ∧
      (¬ Taken cc s → exec i s = .next (s.setCost 12))) ∧
    (i.form = .jpHl → exec i s = .next ((s.setPc s.hl).setCost 4)) ∧
    (∀ e, i.form = .jr e → exec i s = .next ((s.setPc (s.cpu.pc + e.signExtend 16)).setCost 12)) ∧
    (∀ cc e, i.form = .jrCc cc e →
      (Taken cc s → exec i s = .next ((s.setPc (s.cpu.pc + e.signExtend 16)).setCost 12)) ∧
      (¬ Taken cc s → exec i s = .next (s.setCost 8)))

/-- O30 (R406, R407, R412). CALL, a taken CALL cc and RST push the address after the instruction, high byte at SP-1 and
low byte at SP-2, then set PC to the target; a CALL cc not taken only takes time. They complete where neither stack
address is an unimplemented I/O one. -/
def Obligations.Calls : Prop :=
  (∀ (i : Instr) (s : State) (a : Word) (n : Nat),
    (i.form = .call a ∧ n = 24) ∨ (∃ cc, i.form = .callCc cc a ∧ Taken cc s ∧ n = 24) ∨
      (∃ k : BitVec 3, i.form = .rst k ∧ a = BitVec.ofNat 16 (8 * k.toNat) ∧ n = 16) →
    Mapped s → PushOk s.cpu.sp →
    ∃ t u, memWrite (s.setSp (s.cpu.sp - 1)) (s.cpu.sp - 1) (hiByte s.cpu.pc) = .next t ∧
      memWrite (t.setSp (s.cpu.sp - 2)) (s.cpu.sp - 2) (loByte s.cpu.pc) = .next u ∧
      u.cpu.sp = s.cpu.sp - 2 ∧ exec i s = .next ((u.setPc a).setCost n)) ∧
  (∀ (i : Instr) (s : State) (cc : Cond) (a : Word), i.form = .callCc cc a → ¬ Taken cc s →
    exec i s = .next (s.setCost 12))

/-- O31 (R408, R409, R411). RET, a taken RET cc and RETI load PC from the two bytes at SP, low byte first, and move SP
up by two; RETI also sets IME and leaves the deferred queue alone; a RET cc not taken only takes time. -/
def Obligations.Returns : Prop :=
  ∀ (i : Instr) (s : State), Mapped s →
    (i.form = .ret → exec i s = .next
      (((s.setSp (s.cpu.sp + 2)).setPc (pairOf (readByte s (s.cpu.sp + 1)) (readByte s s.cpu.sp))).setCost 16)) ∧
    (∀ cc, i.form = .retCc cc →
      (Taken cc s → exec i s = .next
        (((s.setSp (s.cpu.sp + 2)).setPc (pairOf (readByte s (s.cpu.sp + 1)) (readByte s s.cpu.sp))).setCost 20)) ∧
      (¬ Taken cc s → exec i s = .next (s.setCost 8))) ∧
    (i.form = .reti → exec i s = .next
      ((((s.setSp (s.cpu.sp + 2)).setPc (pairOf (readByte s (s.cpu.sp + 1)) (readByte s s.cpu.sp))).setIme
        true).setCost 16))

/-- O32 (R420, R422, R424, R425). NOP changes nothing, HALT sets halted, EI and DI append (SetIME, 2) and (ClearIME, 2)
to the deferred queue; no flag is written and each costs 4. -/
def Obligations.ControlInstructions : Prop :=
  ∀ (i : Instr) (s : State),
    (i.form = .nop → exec i s = .next (s.setCost 4)) ∧
    (i.form = .halt → exec i s = .next (({ s with cpu := { s.cpu with halted := true } } : State).setCost 4)) ∧
    (i.form = .ei → exec i s = .next (({ s with cpu := { s.cpu with
      pending := s.cpu.pending ++ [{ effect := .setIME, remaining := 2 }] } } : State).setCost 4)) ∧
    (i.form = .di → exec i s = .next (({ s with cpu := { s.cpu with
      pending := s.cpu.pending ++ [{ effect := .clearIME, remaining := 2 }] } } : State).setCost 4))

/-- O33 (files 40 to 46 (the Flags and pseudocode of each rule), R170). For every form that stores nothing: everything
outside the CPU is unchanged, every byte reads as before (STOP changes what KEY1 reads, and nothing else), every
register outside those the rule writes, every flag the rule does not name, SP unless the rule moves it, PC unless
the form transfers control, and the control state unless the form is HALT, STOP, EI, DI or RETI. -/
def Obligations.FrameOfFormsWithoutStore : Prop :=
  ∀ (i : Instr) (s t : State), storesNothing i.form = true → exec i s = .next t →
    SameOutside s t ∧
    (∀ a, locOf s a ≠ .io 0x4D → readByte t a = readByte s a) ∧
    ((∀ b, i.form ≠ .stop b) → SameBytes s t) ∧
    SameRegsBut (regsWritten i.form) s t ∧
    SameFlagsBut (flagsWritten i.form) s t ∧
    (writesSp i.form = false → t.cpu.sp = s.cpu.sp) ∧
    (transfers i.form = false → t.cpu.pc = s.cpu.pc) ∧
    (writesControl i.form = false → SameControl s t)

/-- O34 (files 40, 42, 44 (the Flags and pseudocode of each store rule), 20_memory.md R104, R108). For every form that
stores one byte, at the address and with the byte its rule computes: registers, flags, SP, PC and the control state
are as its rule leaves them at every address; when the address is plain memory the byte reads back, every address of
another place reads as before, and no device changes. -/
def Obligations.FrameOfByteStores : Prop :=
  ∀ (i : Instr) (s t : State) (a : Word) (v : Byte), byteStore i.form s = some (a, v) → exec i s = .next t →
    SameRegsBut (regsWritten i.form) s t ∧
    SameFlagsBut (flagsWritten i.form) s t ∧
    t.cpu.sp = s.cpu.sp ∧ t.cpu.pc = s.cpu.pc ∧ t.cpu.ime = s.cpu.ime ∧ t.cpu.halted = s.cpu.halted ∧
    t.cpu.pending = s.cpu.pending ∧ t.cpu.doubleSpeed = s.cpu.doubleSpeed ∧
    (PlainStore s a →
      readByte t a = v ∧ SameBytesBut (locOf s a) s t ∧ SameDevices s t ∧ t.cpu.key1Armed = s.cpu.key1Armed)

/-- O35 (41_loads16.md R321, R324, 45_control.md R406, R407, R412, 20_memory.md R105). For LD (a16),SP, PUSH, CALL, a
taken CALL cc and RST: every register and flag is unchanged but SP, which the pushing forms move down by two; when
both addresses are plain memory the two bytes read back, low byte at the lower address, every address of another
place reads as before, and no device changes. -/
def Obligations.FrameOfWordStores : Prop :=
  ∀ (i : Instr) (s t : State) (a w : Word), wordStore i.form s = some (a, w) → exec i s = .next t →
    SameRegsBut [] s t ∧ t.cpu.f = s.cpu.f ∧
    t.cpu.sp = (if writesSp i.form then s.cpu.sp - 2 else s.cpu.sp) ∧
    (transfers i.form = false → t.cpu.pc = s.cpu.pc) ∧
    t.cpu.ime = s.cpu.ime ∧ t.cpu.halted = s.cpu.halted ∧ t.cpu.pending = s.cpu.pending ∧
    t.cpu.doubleSpeed = s.cpu.doubleSpeed ∧
    (PlainStore s a → PlainStore s (a + 1) →
      readByte t a = loByte w ∧ readByte t (a + 1) = hiByte w ∧
      (∀ b, locOf s b ≠ locOf s a → locOf s b ≠ locOf s (a + 1) → readByte t b = readByte s b) ∧
      SameDevices s t ∧ t.cpu.key1Armed = s.cpu.key1Armed)

/-- O36 (R36). For any state whose F has a zero low nibble and any instruction that completes, the low nibble of F is
zero afterwards; POP AF masks it whatever it was. -/
def Obligations.FlagLowNibbleStaysZero : Prop :=
  (∀ (i : Instr) (s t : State), s.cpu.f &&& 0x0F = 0 → exec i s = .next t → t.cpu.f &&& 0x0F = 0) ∧
  (∀ (i : Instr) (s t : State), i.form = .pop .af → exec i s = .next t →
    t.cpu.f = readByte s s.cpu.sp &&& 0xF0)

/-- O37 (20_memory.md R103, R104, R108, R112, R114, R116, R131, 10_state.md R51, 60_exceptions.md R500, 61_timer.md
R552, 62_ppu.md R609, R641). MemWrite to RAM, OAM, HRAM or IE completes; the byte reads back at that address, every
address of another place reads as before, and nothing but memory and IE changes; an MBC2 cell keeps the low nibble
and reads with its high nibble 1. A write to an I/O register whose read and write are both identity in the table of
10_state.md R51 (SB, TIMA, TMA, TAC, IF, SCY, SCX, BGP, OBP0, OBP1, WY, WX, wave RAM, and IE) stores all eight bits
and changes nothing else, and a read gives the stored byte. -/
def Obligations.PlainWriteReadsBack : Prop :=
  (∀ (s : State) (a : Word) (v : Byte), PlainStore s a →
    ∃ t, memWrite s a v = .next t ∧ readByte t a = v ∧ SameBytesBut (locOf s a) s t ∧
      SameDevices s t ∧ t.cpu = s.cpu ∧ t.mem.rom = s.mem.rom) ∧
  (∀ (s : State) (a : Word) (v : Byte) (n : Nat), locOf s a = .mbc2ram n →
    ∃ t, memWrite s a v = .next t ∧ readByte t a = 0xF0 ||| v ∧ SameBytesBut (.mbc2ram n) s t ∧
      SameDevices s t ∧ t.cpu = s.cpu) ∧
  (∀ (s : State) (v : Byte),
    (memWrite s 0xFF0F v = .next { s with irq := { s.irq with ifByte := v } } ∧ readByte s 0xFF0F = s.irq.ifByte) ∧
    (memWrite s 0xFFFF v = .next { s with irq := { s.irq with ieByte := v } } ∧ readByte s 0xFFFF = s.irq.ieByte) ∧
    (memWrite s 0xFF01 v = .next { s with serial := { s.serial with sb := v } } ∧ readByte s 0xFF01 = s.serial.sb) ∧
    (memWrite s 0xFF05 v = .next { s with timer := { s.timer with tima := v } } ∧ readByte s 0xFF05 = s.timer.tima) ∧
    (memWrite s 0xFF06 v = .next { s with timer := { s.timer with tma := v } } ∧ readByte s 0xFF06 = s.timer.tma) ∧
    (memWrite s 0xFF07 v = .next { s with timer := { s.timer with tac := v } } ∧ readByte s 0xFF07 = s.timer.tac) ∧
    (memWrite s 0xFF42 v = .next { s with ppu := { s.ppu with scy := v } } ∧ readByte s 0xFF42 = s.ppu.scy) ∧
    (memWrite s 0xFF43 v = .next { s with ppu := { s.ppu with scx := v } } ∧ readByte s 0xFF43 = s.ppu.scx) ∧
    (memWrite s 0xFF47 v = .next { s with ppu := { s.ppu with bgp := v } } ∧ readByte s 0xFF47 = s.ppu.bgp) ∧
    (memWrite s 0xFF48 v = .next { s with ppu := { s.ppu with obp0 := v } } ∧ readByte s 0xFF48 = s.ppu.obp0) ∧
    (memWrite s 0xFF49 v = .next { s with ppu := { s.ppu with obp1 := v } } ∧ readByte s 0xFF49 = s.ppu.obp1) ∧
    (memWrite s 0xFF4A v = .next { s with ppu := { s.ppu with wy := v } } ∧ readByte s 0xFF4A = s.ppu.wy) ∧
    (memWrite s 0xFF4B v = .next { s with ppu := { s.ppu with wx := v } } ∧ readByte s 0xFF4B = s.ppu.wx)) ∧
  (∀ (s : State) (a : Word) (v : Byte), 0xFF30 ≤ a.toNat → a.toNat ≤ 0xFF3F →
    ∃ t, memWrite s a v = .next t ∧ readByte t a = v ∧
      t = { s with sound := { s.sound with waveRam := s.sound.waveRam.write (a.toNat - 0xFF30) v } } ∧
      readByte s a = s.sound.waveRam.read (a.toNat - 0xFF30) ∧ ∀ b, b ≠ a → readByte t b = readByte s b)

/-- O38 (R113, R115). At 0xE000..0xFDFF a read and a write are the same access 0x2000 lower; at 0xFEA0..0xFEFF a read is
that of the address 0x2000 lower and a write changes nothing. -/
def Obligations.MirrorAndUnusable : Prop :=
  (∀ (s : State) (a : Word) (v : Byte), 0xE000 ≤ a.toNat → a.toNat ≤ 0xFDFF →
    memRead s a = memRead s (a - 0x2000) ∧ memWrite s a v = memWrite s (a - 0x2000) v) ∧
  (∀ (s : State) (a : Word) (v : Byte), 0xFEA0 ≤ a.toNat → a.toNat ≤ 0xFEFF →
    memRead s a = memRead s (a - 0x2000) ∧ memWrite s a v = .next s)

/-- O39 (R52). At the listed I/O addresses a write is the fault UnimplementedIOWrite with the address, a read gives the
stored byte of the I/O file, and at no other I/O address is a write that fault. -/
def Obligations.UnimplementedWriteFaults : Prop :=
  (∀ a : Word,
    (a.toNat = 0xFF03 ∨ (0xFF08 ≤ a.toNat ∧ a.toNat ≤ 0xFF0E) ∨ a.toNat = 0xFF15 ∨ a.toNat = 0xFF1F ∨
      (0xFF27 ≤ a.toNat ∧ a.toNat ≤ 0xFF2F) ∨ a.toNat = 0xFF4C ∨ a.toNat = 0xFF4E ∨ a.toNat = 0xFF50 ∨
      (0xFF56 ≤ a.toNat ∧ a.toNat ≤ 0xFF67) ∨ (0xFF6C ≤ a.toNat ∧ a.toNat ≤ 0xFF6F) ∨
      (0xFF71 ≤ a.toNat ∧ a.toNat ≤ 0xFF7F)) ↔ Unimplemented a) ∧
  (∀ (s : State) (a : Word) (v : Byte), Unimplemented a →
    memWrite s a v = .fault (.unimplementedIOWrite a { s with fault := some (.unimplementedIOWrite a) }) ∧
    readByte s a = s.mem.io.read (a.toNat - 0xFF00)) ∧
  (∀ (s : State) (a : Word) (v : Byte), Mapped s → ¬ Unimplemented a → ∃ t, memWrite s a v = .next t)

/-- O40 (20_memory.md R117, R121, R126, R131, R141). With the RAM gate closed on a bank controller (MBC1, MBC2, MBC3,
MBC5), with no RAM bank selected, or without RAM on the cartridge (and no clock register mapped), a read of
0xA000..0xBFFF gives 0xFF and a write changes nothing. Otherwise both are at the selected bank modulo the number of
banks: bank 0, always enabled, without a controller; on MBC1 the upper latch in mode 1 and bank 0 in mode 0; the
selected bank on MBC3 and MBC5. An open MBC2 is its 512 cells of four bits, whatever RAM the cartridge names; a
mapped MBC3 clock register is read and set, and the set request goes to RTC_SOURCE, where the later samples may
depend on it (how requests are held is the model's: log entries 5 and 6). -/
def Obligations.ExternalRamGate : Prop :=
  ∀ (s : State) (a : Word) (v : Byte), 0xA000 ≤ a.toNat → a.toNat ≤ 0xBFFF →
    let off := a.toNat - 0xA000
    ((s.cart.mbc = .mbc1 ∨ s.cart.mbc = .mbc2 ∨ s.cart.mbc = .mbc3 ∨ s.cart.mbc = .mbc5) → s.mbc.ramEnable = false →
      readByte s a = 0xFF ∧ memWrite s a v = .next s) ∧
    ((s.cart.mbc = .mbc5 ∨ (s.cart.mbc = .mbc3 ∧ s.mbc.rtcSelect = none)) → s.mbc.ramBank = none →
      readByte s a = 0xFF ∧ memWrite s a v = .next s) ∧
    ((s.cart.mbc = .none ∨ s.cart.mbc = .mbc1 ∨ s.cart.mbc = .mbc5 ∨
        (s.cart.mbc = .mbc3 ∧ s.mbc.rtcSelect = none)) → s.cart.ramBanks = 0 →
      readByte s a = 0xFF ∧ memWrite s a v = .next s) ∧
    (s.cart.mbc = .none → 0 < s.cart.ramBanks →
      readByte s a = s.mem.eram.read off ∧
        memWrite s a v = .next { s with mem := { s.mem with eram := s.mem.eram.write off v } }) ∧
    (s.cart.mbc = .mbc1 → s.mbc.ramEnable = true → 0 < s.cart.ramBanks →
      let k := (if s.mbc.mbc1Mode then s.mbc.mbc1Upper.toNat else 0) % s.cart.ramBanks * 0x2000 + off
      readByte s a = s.mem.eram.read k ∧
        memWrite s a v = .next { s with mem := { s.mem with eram := s.mem.eram.write k v } }) ∧
    (∀ b, (s.cart.mbc = .mbc5 ∨ (s.cart.mbc = .mbc3 ∧ s.mbc.rtcSelect = none)) → s.mbc.ramEnable = true →
      s.mbc.ramBank = some b → 0 < s.cart.ramBanks →
      let k := b.toNat % s.cart.ramBanks * 0x2000 + off
      readByte s a = s.mem.eram.read k ∧
        memWrite s a v = .next { s with mem := { s.mem with eram := s.mem.eram.write k v } }) ∧
    (s.cart.mbc = .mbc2 → s.mbc.ramEnable = true →
      readByte s a = 0xF0 ||| s.mem.mbc2ram.read (a.toNat % 512) ∧
        memWrite s a v = .next { s with mem := { s.mem with
          mbc2ram := s.mem.mbc2ram.write (a.toNat % 512) (BitVec.ofNat 8 (v.toNat % 16)) } }) ∧
    (∀ r, s.cart.mbc = .mbc3 → s.mbc.ramEnable = true → s.mbc.rtcSelect = some r →
      readByte s a = rtcByte s.mbc.rtcLatched r ∧
        ∃ c, memWrite s a v = .next { s with
            mbc := { s.mbc with rtcLatched := c }
            host := { s.host with
              sent := .rtcSet r v :: s.host.sent, clockRequests := .set r v :: s.host.clockRequests } } ∧
          rtcByte c r = v ∧ ∀ q, q ≠ r → rtcByte c q = rtcByte s.mbc.rtcLatched q)

/-- O41 (20_memory.md R120, R122, R123, R124, R125, R126). On MBC1 a write to each quarter of the ROM region sets its
register, a zero low bank field selecting 1; the region 0x4000..0x7FFF then reads the bank these select modulo the
number of banks, 0x0000..0x3FFF reads bank 0, and ROM itself never changes. The RAM bank that R125 and R126 select
by mode is in ExternalRamGate. -/
def Obligations.Mbc1Banking : Prop :=
  ∀ (s : State) (a : Word) (v : Byte), s.cart.mbc = .mbc1 →
    (a.toNat ≤ 0x1FFF → memWrite s a v = .next { s with mbc := { s.mbc with ramEnable := decide (v.toNat % 16 = 10) } }) ∧
    (0x2000 ≤ a.toNat → a.toNat ≤ 0x3FFF → memWrite s a v = .next { s with mbc := { s.mbc with
      mbc1Low5 := if v.toNat % 32 = 0 then 1 else BitVec.ofNat 5 v.toNat } }) ∧
    (0x4000 ≤ a.toNat → a.toNat ≤ 0x5FFF → memWrite s a v = .next { s with mbc := { s.mbc with
      mbc1Upper := BitVec.ofNat 2 v.toNat } }) ∧
    (0x6000 ≤ a.toNat → a.toNat ≤ 0x7FFF → memWrite s a v = .next { s with mbc := { s.mbc with
      mbc1Mode := decide (v.toNat % 2 = 1) } }) ∧
    (a.toNat ≤ 0x3FFF → readByte s a = s.mem.rom.read a.toNat) ∧
    (0x4000 ≤ a.toNat → a.toNat ≤ 0x7FFF → readByte s a = s.mem.rom.read
      (((if s.mbc.mbc1Mode then 0 else 32 * s.mbc.mbc1Upper.toNat) + s.mbc.mbc1Low5.toNat) % s.cart.romBanks * 0x4000
        + (a.toNat - 0x4000)))

/-- O42 (20_memory.md R120, R121, R130, R140, R141, R142, R146, R147). Without a controller a ROM-region write changes
nothing; MBC2 chooses the register by address bit 8; MBC3 takes a 7-bit bank, 0 as 1, a RAM bank 0..3 or, with a
clock, a clock register 0x08..0x0C (any other value maps nothing), and latches the clock on a rising edge of bit 0;
MBC5 takes a 9-bit bank in two writes, and a RAM bank of 4 bits, or of 3 and the rumble bit, whose change is told to
the host; its last quarter does nothing. A latched sample is the next answer of RTC_SOURCE after the requests it has
had, or a placed one (log entry 6). The region 0x4000..0x7FFF reads that bank (0 as 1 on MBC5; bank 1 without a
controller) modulo the number of banks, and 0x0000..0x3FFF reads bank 0. -/
def Obligations.OtherControllers : Prop :=
  ∀ (s : State) (a : Word) (v : Byte), a.toNat ≤ 0x7FFF →
    (s.cart.mbc ≠ .mmm01 →
      (a.toNat ≤ 0x3FFF → readByte s a = s.mem.rom.read a.toNat) ∧
      (0x4000 ≤ a.toNat → readByte s a = s.mem.rom.read (romBankEff s * 0x4000 + (a.toNat - 0x4000)))) ∧
    (s.cart.mbc = .none → memWrite s a v = .next s ∧ romBankEff s = 1 % s.cart.romBanks) ∧
    (s.cart.mbc = .mbc2 →
      (a.toNat ≤ 0x3FFF → a.toNat / 256 % 2 = 0 →
        memWrite s a v = .next { s with mbc := { s.mbc with ramEnable := decide (v.toNat % 16 = 10) } }) ∧
      (a.toNat ≤ 0x3FFF → a.toNat / 256 % 2 = 1 → memWrite s a v = .next { s with mbc := { s.mbc with
        romBank := if v.toNat % 16 = 0 then 1 else BitVec.ofNat 9 (v.toNat % 16) } }) ∧
      (0x4000 ≤ a.toNat → memWrite s a v = .next s) ∧
      romBankEff s = s.mbc.romBank.toNat % s.cart.romBanks) ∧
    (s.cart.mbc = .mbc3 →
      (a.toNat ≤ 0x1FFF →
        memWrite s a v = .next { s with mbc := { s.mbc with ramEnable := decide (v.toNat % 16 = 10) } }) ∧
      (0x2000 ≤ a.toNat → a.toNat ≤ 0x3FFF → memWrite s a v = .next { s with mbc := { s.mbc with
        romBank := if v.toNat % 128 = 0 then 1 else BitVec.ofNat 9 (v.toNat % 128) } }) ∧
      (0x4000 ≤ a.toNat → a.toNat ≤ 0x5FFF → memWrite s a v = .next { s with mbc := { s.mbc with
        ramBank := if v.toNat ≤ 3 then some (BitVec.ofNat 4 v.toNat) else none
        rtcSelect := (if s.cart.hasRtc = true ∧ 8 ≤ v.toNat then
          ([.seconds, .minutes, .hours, .dayLow, .dayHigh] : List RtcReg)[v.toNat - 8]? else none) } }) ∧
      (0x6000 ≤ a.toNat → (s.mbc.rtcLatchLast = true ∨ v.toNat % 2 = 0) →
        memWrite s a v = .next { s with mbc := { s.mbc with rtcLatchLast := decide (v.toNat % 2 = 1) } }) ∧
      (0x6000 ≤ a.toNat → s.mbc.rtcLatchLast = false → v.toNat % 2 = 1 → memWrite s a v = .next { s with
        mbc := { s.mbc with
          rtcLatched := Source.answer s.host.clock (Config.rtcSample s.host.clockRequests)
            { seconds := 0, minutes := 0, hours := 0, dayLow := 0, dayHigh := 0 }
          rtcLatchLast := true }
        host := { s.host with
          clock := Source.rest s.host.clock, clockRequests := .sample :: s.host.clockRequests } }) ∧
      romBankEff s = s.mbc.romBank.toNat % s.cart.romBanks) ∧
    (s.cart.mbc = .mbc5 →
      (a.toNat ≤ 0x1FFF →
        memWrite s a v = .next { s with mbc := { s.mbc with ramEnable := decide (v.toNat % 16 = 10) } }) ∧
      (0x4000 ≤ a.toNat → a.toNat ≤ 0x5FFF → s.cart.hasRumble = false →
        memWrite s a v = .next { s with mbc := { s.mbc with ramBank := some (BitVec.ofNat 4 (v.toNat % 16)) } }) ∧
      (0x4000 ≤ a.toNat → a.toNat ≤ 0x5FFF → s.cart.hasRumble = true → memWrite s a v = .next { s with
        mbc := { s.mbc with rumble := v.getLsbD 3, ramBank := some (BitVec.ofNat 4 (v.toNat % 8)) }
        host := { s.host with sent := (if v.getLsbD 3 = s.mbc.rumble then s.host.sent
          else .rumble (v.getLsbD 3) :: s.host.sent) } }) ∧
      (0x6000 ≤ a.toNat → memWrite s a v = .next s) ∧
      (0x2000 ≤ a.toNat → a.toNat ≤ 0x2FFF → memWrite s a v = .next { s with mbc := { s.mbc with
        romBank := BitVec.ofNat 9 (s.mbc.romBank.toNat / 256 * 256 + v.toNat) } }) ∧
      (0x3000 ≤ a.toNat → a.toNat ≤ 0x3FFF → memWrite s a v = .next { s with mbc := { s.mbc with
        romBank := BitVec.ofNat 9 (v.toNat % 2 * 256 + s.mbc.romBank.toNat % 256) } }) ∧
      romBankEff s = (if s.mbc.romBank = 0 then 1 else s.mbc.romBank.toNat) % s.cart.romBanks)

/-- O43 (R155). A write of v to 0xFF46 stores v and fills OAM with the 160 bytes at v * 256, as they read once v is
stored; it adds no ticks and changes nothing else. -/
def Obligations.OamDmaCopies : Prop :=
  ∀ (s : State) (v : Byte), Mapped s →
    let s1 := { s with ppu := { s.ppu with dma := v } }
    ∃ t m, memWrite s 0xFF46 v = .next t ∧ t = { s1 with mem := { s1.mem with oam := m } } ∧
      (∀ i, i < 160 → m.read i = readByte s1 (BitVec.ofNat 16 (v.toNat * 256 + i))) ∧
      (∀ i, 160 ≤ i → m.read i = s.mem.oam.read i)

/-- O44 (20_memory.md R160, R161, R162, R163, R164, R165, 62_ppu.md R603). A block copies its 16 bytes one after
another, each read after the one before is stored, into the current VRAM bank from the destination offset on, modulo
0x2000, and moves the two addresses on by 16; from a source outside VRAM that puts the 16 source bytes there and
leaves the rest of VRAM and everything else alone. On CGB, HDMA1..HDMA4 form the two addresses. A general-purpose
HDMA5 write runs v + 1 blocks one after another, charges their cost to extra and then reads 0xFF; an H-blank one
only arms; one with bit 7 clear during an H-blank transfer only cancels it. Each entry to mode 0 with a transfer
active copies one block, counts it, charges its cost to stall and ends the transfer with the last; with none active
it copies nothing. HDMA5 reads the blocks left minus 1, with bit 7 set if cancelled. -/
def Obligations.HdmaTransfers : Prop :=
  (∀ s : State, Mapped s →
    let place (j : Nat) := vramBankEff s * 0x2000 + (s.hdma.dst.toNat + j) % 0x2000
    let copy (t : State) (j : Nat) : State := { t with mem := { t.mem with
      vram := t.mem.vram.write (place j) (readByte t (s.hdma.src + BitVec.ofNat 16 j)) } }
    let u := (List.range 16).foldl copy s
    hdmaBlock s =
      .next { u with hdma := { s.hdma with src := s.hdma.src + 16, dst := (s.hdma.dst + 16) &&& 0x1FFF } }) ∧
  (∀ s : State, Mapped s → (∀ j n, j < 16 → locOf s (s.hdma.src + BitVec.ofNat 16 j) ≠ .vram n) →
    let base := vramBankEff s * 0x2000
    ∃ t m, hdmaBlock s = .next t ∧
      t = { s with mem := { s.mem with vram := m },
                   hdma := { s.hdma with src := s.hdma.src + 16, dst := (s.hdma.dst + 16) &&& 0x1FFF } } ∧
      (∀ j, j < 16 → m.read (base + (s.hdma.dst.toNat + j) % 0x2000) =
        readByte s (s.hdma.src + BitVec.ofNat 16 j)) ∧
      (∀ k, (∀ j, j < 16 → k ≠ base + (s.hdma.dst.toNat + j) % 0x2000) → m.read k = s.mem.vram.read k)) ∧
  (∀ (s : State) (v : Byte), s.model = .cgb →
    memWrite s 0xFF51 v = .next { s with hdma := { s.hdma with
      reg1 := v, src := pairOf v s.hdma.reg2 &&& 0xFFF0
      dst := pairOf (s.hdma.reg3 &&& 0x1F) s.hdma.reg4 &&& 0x1FF0 } } ∧
    memWrite s 0xFF52 v = .next { s with hdma := { s.hdma with
      reg2 := v, src := pairOf s.hdma.reg1 v &&& 0xFFF0
      dst := pairOf (s.hdma.reg3 &&& 0x1F) s.hdma.reg4 &&& 0x1FF0 } } ∧
    memWrite s 0xFF53 v = .next { s with hdma := { s.hdma with
      reg3 := v, src := pairOf s.hdma.reg1 s.hdma.reg2 &&& 0xFFF0
      dst := pairOf (v &&& 0x1F) s.hdma.reg4 &&& 0x1FF0 } } ∧
    memWrite s 0xFF54 v = .next { s with hdma := { s.hdma with
      reg4 := v, src := pairOf s.hdma.reg1 s.hdma.reg2 &&& 0xFFF0
      dst := pairOf (s.hdma.reg3 &&& 0x1F) v &&& 0x1FF0 } }) ∧
  (∀ (s : State) (v : Byte), Mapped s → s.model = .cgb → s.hdma.hblank = false → v.toNat < 128 →
    ∃ (run : Nat → State) (t : State), run 0 = s ∧
      (∀ k, k ≤ v.toNat → hdmaBlock (run k) = .next (run (k + 1))) ∧
      memWrite s 0xFF55 v = .next t ∧
      t = { run (v.toNat + 1) with
        hdma := { (run (v.toNat + 1)).hdma with left := 0 }
        extra := s.extra + (v.toNat + 1) * (if s.cpu.doubleSpeed then 64 else 32) } ∧
      t.hdma.src = s.hdma.src + BitVec.ofNat 16 (16 * (v.toNat + 1)) ∧
      t.hdma.dst = (s.hdma.dst + BitVec.ofNat 16 (16 * (v.toNat + 1))) &&& 0x1FFF ∧
      readByte t 0xFF55 = 0xFF) ∧
  (∀ (s : State) (v : Byte), s.model = .cgb → 128 ≤ v.toNat →
    memWrite s 0xFF55 v = .next { s with hdma := { s.hdma with hblank := true, left := v.toNat - 127 } }) ∧
  (∀ (s : State) (v : Byte), s.model = .cgb → s.hdma.hblank = true → v.toNat < 128 →
    memWrite s 0xFF55 v = .next { s with hdma := { s.hdma with hblank := false } }) ∧
  (∀ s : State, s.ppu.ly < 144 → s.ppu.lineDot = 251 →
    ppuDot s = hblankBlock { s with
      ppu := { s.ppu with lineDot := 252, mode := .hblank }
      irq := { s.irq with
        ifByte := if s.ppu.statEnable.getLsbD 0 then setBitOf s.irq.ifByte 1 else s.irq.ifByte } }) ∧
  (∀ s : State, Mapped s → s.hdma.hblank = true → 0 < s.hdma.left →
    ∃ t, hdmaBlock s = .next t ∧ hblankBlock s = .next { t with hdma := { t.hdma with
      left := s.hdma.left - 1, stall := s.hdma.stall + (if s.cpu.doubleSpeed then 64 else 32)
      hblank := decide (s.hdma.left ≠ 1) } }) ∧
  (∀ s : State, s.hdma.hblank = false → hblankBlock s = .next s) ∧
  (∀ s : State, s.model = .cgb →
    (s.hdma.hblank = true → 0 < s.hdma.left → s.hdma.left ≤ 128 → (readByte s 0xFF55).toNat = s.hdma.left - 1) ∧
    (s.hdma.hblank = false → s.hdma.left = 0 → readByte s 0xFF55 = 0xFF) ∧
    (s.hdma.hblank = false → 0 < s.hdma.left → s.hdma.left ≤ 128 →
      (readByte s 0xFF55).toNat = 128 + (s.hdma.left - 1)))

/-- O45 (R110, R111, R515, R551, R642). On CGB, VBK selects the VRAM bank and reads 0xFE or it, SVBK selects a work-RAM
bank 1..7 (0 as 1) and reads 0xF8 or it, KEY1 takes only its armed bit and reads the speed, 0x7E and the armed bit;
on both models any write to DIV clears the counter and nothing else, and DIV reads its high byte. On CGB, BCPS and
OCPS take the auto-increment bit and the index and read 0x40 or them; BCPD and OCPD read the byte at the index and
store there, the index then moving on by one modulo 64 if the bit is set. A palette's colour is its 15-bit word,
each 5-bit channel scaled to 8. -/
def Obligations.BankSpeedAndDividerRegisters : Prop :=
  ∀ (s : State) (v : Byte),
    (s.model = .cgb →
      memWrite s 0xFF4F v = .next { s with mbc := { s.mbc with vramBank := decide (v.toNat % 2 = 1) } } ∧
      readByte s 0xFF4F = (if s.mbc.vramBank then 0xFF else 0xFE) ∧
      memWrite s 0xFF70 v = .next { s with mbc := { s.mbc with
        wramBank := if v.toNat % 8 = 0 then 1 else BitVec.ofNat 3 v.toNat } } ∧
      readByte s 0xFF70 = BitVec.ofNat 8 (0xF8 + s.mbc.wramBank.toNat) ∧
      memWrite s 0xFF4D v = .next { s with cpu := { s.cpu with key1Armed := decide (v.toNat % 2 = 1) } } ∧
      readByte s 0xFF4D = BitVec.ofNat 8 (128 * s.cpu.doubleSpeed.toNat + 0x7E + s.cpu.key1Armed.toNat)) ∧
    (s.model = .dmg → ∃ m, memWrite s 0xFF4D v = .next { s with mem := { s.mem with io := m } } ∧
      m = s.mem.io.write 0x4D v ∧ readByte s 0xFF4D = s.mem.io.read 0x4D) ∧
    memWrite s 0xFF04 v = .next { s with timer := { s.timer with divCounter := 0 } } ∧
    readByte s 0xFF04 = BitVec.ofNat 8 (s.timer.divCounter.toNat / 256) ∧
    (s.model = .cgb →
      let stepped (i : PaletteIndex) : PaletteIndex :=
        if i.auto then { auto := true, index := BitVec.ofNat 6 ((i.index.toNat + 1) % 64) } else i
      memWrite s 0xFF68 v = .next { s with ppu := { s.ppu with
        bcps := { auto := decide (128 ≤ v.toNat), index := BitVec.ofNat 6 (v.toNat % 64) } } } ∧
      readByte s 0xFF68 = BitVec.ofNat 8 (128 * s.ppu.bcps.auto.toNat + 0x40 + s.ppu.bcps.index.toNat) ∧
      memWrite s 0xFF69 v = .next { s with ppu := { s.ppu with
        bgPalette := s.ppu.bgPalette.write s.ppu.bcps.index.toNat v, bcps := stepped s.ppu.bcps } } ∧
      readByte s 0xFF69 = s.ppu.bgPalette.read s.ppu.bcps.index.toNat ∧
      memWrite s 0xFF6A v = .next { s with ppu := { s.ppu with
        ocps := { auto := decide (128 ≤ v.toNat), index := BitVec.ofNat 6 (v.toNat % 64) } } } ∧
      readByte s 0xFF6A = BitVec.ofNat 8 (128 * s.ppu.ocps.auto.toNat + 0x40 + s.ppu.ocps.index.toNat) ∧
      memWrite s 0xFF6B v = .next { s with ppu := { s.ppu with
        objPalette := s.ppu.objPalette.write s.ppu.ocps.index.toNat v, ocps := stepped s.ppu.ocps } } ∧
      readByte s 0xFF6B = s.ppu.objPalette.read s.ppu.ocps.index.toNat) ∧
    (∀ (ram : Memory) (p c : Nat), p < 8 → c < 4 →
      let w := ((ram.read (8 * p + 2 * c + 1)).toNat * 256 + (ram.read (8 * p + 2 * c)).toNat) % 2 ^ 15
      cgbColour ram p c = .colour (BitVec.ofNat 32 (0xFF000000 + w % 32 * 255 / 31 * 65536 +
        w / 32 % 32 * 255 / 31 * 256 + w / 1024 * 255 / 31)))

/-- O46 (60_exceptions.md R530, R531, R532, R535, R540). A P1 write takes bits 5..4 only and a read drives a line to 0
for a pressed key of a selected group; a drain leaves each key as its last event says, or as it was without one, and
requests interrupt 4 exactly when some key is pressed at the end that was up before or was released by an event (a
key that ends up released requests nothing by the model's reading of R531: log entry 22); SC with bit 7 starts a
transfer, and a step in which the peer answers b ends it with SB = b, SC bit 7 clear and interrupt 3, the peer
having got the byte that was in SB (when it gets it is the model's: log entry 23); a step in which it does not
answer, or with no transfer running, changes nothing but what the next draw depends on. The draws are those of the
open parameters, or placed ones (log entry 6). -/
def Obligations.KeypadAndSerial : Prop :=
  (∀ (s : State) (v : Byte), memWrite s 0xFF00 v =
    .next { s with keypad := { s.keypad with select := v.extractLsb' 4 2 } }) ∧
  (∀ (s : State) (n : Nat), n < 4 → (readByte s 0xFF00).getLsbD n =
    !((!s.keypad.select.getLsbD 0 && s.keypad.keys.getLsbD n) ||
      (!s.keypad.select.getLsbD 1 && s.keypad.keys.getLsbD (4 + n)))) ∧
  (∀ s : State,
    let events := Source.answer s.host.events (Config.hostEvents s.host.drains) []
    let before (k : Key) : Bool := s.keypad.keys.getLsbD (keyBit k)
    let after (k : Key) : Bool := match (events.filter fun e => e.key = k).getLast? with
      | some e => e.pressed
      | none => before k
    ∃ keys q, drainEvents s = { s with
        keypad := { s.keypad with keys := keys }
        irq := { s.irq with ifByte := q }
        host := { s.host with events := Source.rest s.host.events, drains := s.host.drains + 1 } } ∧
      (∀ k, keys.getLsbD (keyBit k) = after k) ∧
      ((∃ k, after k = true ∧ (before k = false ∨ ∃ e ∈ events, e.key = k ∧ e.pressed = false)) →
        q = setBitOf s.irq.ifByte 4) ∧
      ((∀ k, after k = true → before k = true ∧ ∀ e ∈ events, e.key = k → e.pressed = true) →
        q = s.irq.ifByte)) ∧
  (∀ (s : State) (v : Byte), memWrite s 0xFF02 v =
    .next { s with serial := { s.serial with sc := v, busy := decide (128 ≤ v.toNat) } }) ∧
  (∀ s : State, s.serial.busy = true →
    let shown := (s.serial.sb, s.serial.sc) :: s.host.peerShown
    let answer := Source.answer s.host.peer (Config.serialPeer shown) none
    (∀ b, answer = some b → serialTick s = { s with
      serial := { sb := b, sc := s.serial.sc &&& 0x7F, busy := false }
      irq := { s.irq with ifByte := setBitOf s.irq.ifByte 3 }
      host := { s.host with
        sent := .serial s.serial.sb :: s.host.sent, peer := Source.rest s.host.peer, peerShown := shown } }) ∧
    (answer = none → serialTick s =
      { s with host := { s.host with peer := Source.rest s.host.peer, peerShown := shown } })) ∧
  (∀ s : State, s.serial.busy = false → serialTick s = s)

/-- O47 (R553). With the timer on, n = (tima_acc + c) div period increments happen: the accumulator keeps the remainder;
without an overflow TIMA is TIMA + n and nothing is requested; with one, TIMA is TMA plus the increments since the
last reload, and IF bit 2 is set. The divider always counts c, and with the timer off nothing else changes. -/
def Obligations.TimerAdvanceClosedForm : Prop :=
  ∀ (s : State) (c : Nat),
    let p := timerPeriod s.timer.tac
    let n := (s.timer.timaAcc + c) / p
    let x := s.timer.tima.toNat
    let m := s.timer.tma.toNat
    let div := s.timer.divCounter + BitVec.ofNat 16 c
    (s.timer.tac.getLsbD 2 = false →
      timerAdvance c s = { s with timer := { s.timer with divCounter := div } }) ∧
    (s.timer.tac.getLsbD 2 = true → x + n ≤ 255 →
      timerAdvance c s = { s with timer := { s.timer with
        divCounter := div, timaAcc := (s.timer.timaAcc + c) % p, tima := BitVec.ofNat 8 (x + n) } }) ∧
    (s.timer.tac.getLsbD 2 = true → 256 ≤ x + n →
      timerAdvance c s = { s with
        timer := { s.timer with
          divCounter := div, timaAcc := (s.timer.timaAcc + c) % p
          tima := BitVec.ofNat 8 (m + (x + n - 256) % (256 - m)) }
        irq := { s.irq with ifByte := setBitOf s.irq.ifByte 2 } })

/-- O48 (R602). From a position that exists, in the mode it stands for, an advance of d dots with the LCD on completes,
moves the position on by d modulo 70224 and leaves the mode of the new position: modes 2, 3, 0 on lines 0..143 and
mode 1 on lines 144..153; with the LCD off nothing changes. -/
def Obligations.PpuPosition : Prop :=
  (∀ (s : State) (d : Nat), Mapped s → PpuInv s → s.ppu.lcdOn = true →
    ∃ t, ppuAdvance d s = .next t ∧
      t.ppu.ly * 456 + t.ppu.lineDot = (s.ppu.ly * 456 + s.ppu.lineDot + d) % 70224 ∧
      t.ppu.ly < 154 ∧ t.ppu.lineDot < 456 ∧ t.ppu.mode = modeAt t.ppu.ly t.ppu.lineDot) ∧
  (∀ (s : State) (d : Nat), s.ppu.lcdOn = false → ppuAdvance d s = .next s)

/-- O49 (62_ppu.md R602, R603, 95_test_vectors.md invariant 7 and S6). Over any advance of d dots with the LCD on, the
number of frames handed to the host is the number of times the position crosses the start of line 144; if it is at
least one, IF bit 0 is set afterwards; if it is none, IF bit 0 is as before. From line 0 dot 0 an advance of 70224
dots hands over exactly one frame. -/
def Obligations.VBlankOncePerFrame : Prop :=
  ∀ (s t : State) (d : Nat), PpuInv s → s.ppu.lcdOn = true → ppuAdvance d s = .next t →
    let frames (u : State) := u.host.sent.countP fun m => match m with
      | .frame _ => true
      | _ => false
    let start := s.ppu.ly * 456 + s.ppu.lineDot
    let crossings := (start + d + 4560) / 70224 - (start + 4560) / 70224
    frames t = frames s + crossings ∧
    (0 < crossings → t.irq.ifByte.getLsbD 0 = true) ∧
    (crossings = 0 → t.irq.ifByte.getLsbD 0 = s.irq.ifByte.getLsbD 0) ∧
    (start = 0 → d = 70224 → frames t = frames s + 1 ∧ t.ppu.ly = 0 ∧ t.ppu.lineDot = 0 ∧ t.ppu.mode = .oamScan)

/-- O50 (62_ppu.md R602, R603, R605, R606, R607). LY reads the line and ignores writes; STAT reads its enables, the
coincidence flag and the mode (0 while the LCD is off) and takes bits 6..3 only; a write to LYC sets the coincidence
flag to LY = LYC and requests interrupt 1 exactly when the LCD is on, the flag was clear, the lines match and STAT
bit 6 is set. In an advance with the LCD on, which is its dots one after another, a dot sets IF bit 1 exactly when
it enters mode 0, 1 or 2 with STAT bit 3, 4 or 5 set, or begins a line that equals LYC with the flag clear and STAT
bit 6 set; otherwise that bit is as before, and so are bits 2, 3 and 5..7. On states whose line and dot exist. -/
def Obligations.LineCompareAndStatus : Prop :=
  (∀ (s : State) (v : Byte), s.ppu.ly < 154 →
    memWrite s 0xFF44 v = .next s ∧
    (readByte s 0xFF44).toNat = s.ppu.ly ∧
    memWrite s 0xFF41 v = .next { s with ppu := { s.ppu with statEnable := v.extractLsb' 3 4 } } ∧
    (readByte s 0xFF41).toNat = 0x80 + 8 * s.ppu.statEnable.toNat + 4 * s.ppu.lycEqual.toNat +
      (if s.ppu.lcdOn then (match s.ppu.mode with
        | .hblank => 0
        | .vblank => 1
        | .oamScan => 2
        | .transfer => 3) else 0) ∧
    readByte s 0xFF45 = s.ppu.lyc ∧
    ∃ q, memWrite s 0xFF45 v = .next { s with
      ppu := { s.ppu with lyc := v, lycEqual := decide (s.ppu.ly = v.toNat) }
      irq := { s.irq with ifByte := q } } ∧
      q = (if s.ppu.lcdOn = true ∧ s.ppu.lycEqual = false ∧ s.ppu.ly = v.toNat ∧ s.ppu.statEnable.getLsbD 3 = true
        then setBitOf s.irq.ifByte 1 else s.irq.ifByte)) ∧
  (∀ s : State, Mapped s → s.ppu.lcdOn = true → s.ppu.ly < 154 → s.ppu.lineDot < 456 →
    let line := (s.ppu.ly + 1) % 154
    ∃ t, ppuDot s = .next t ∧
      (t.irq.ifByte.getLsbD 1 = true ↔ s.irq.ifByte.getLsbD 1 = true ∨
        (s.ppu.ly < 144 ∧ s.ppu.lineDot = 251 ∧ s.ppu.statEnable.getLsbD 0 = true) ∨
        (s.ppu.lineDot = 455 ∧ line = 144 ∧ s.ppu.statEnable.getLsbD 1 = true) ∨
        (s.ppu.lineDot = 455 ∧ line < 144 ∧ s.ppu.statEnable.getLsbD 2 = true) ∨
        (s.ppu.lineDot = 455 ∧ line = s.ppu.lyc.toNat ∧ s.ppu.lycEqual = false ∧
          s.ppu.statEnable.getLsbD 3 = true)) ∧
      (∀ n, n ≠ 0 → n ≠ 1 → n ≠ 4 → t.irq.ifByte.getLsbD n = s.irq.ifByte.getLsbD n) ∧
      t.ppu.lycEqual = (if s.ppu.lineDot = 455 then decide (line = s.ppu.lyc.toNat) else s.ppu.lycEqual)) ∧
  (∀ (s : State) (d : Nat), s.ppu.lcdOn = true →
    ppuAdvance 0 s = .next s ∧ ppuAdvance (d + 1) s = andThen (ppuDot s) (ppuAdvance d))

/-- O51 (62_ppu.md R608, R640). A write to LCDC that clears bit 7 sets line and dot 0, mode 0, the coincidence flag, and
every pixel to the brightest shade, and requests nothing; one that sets bit 7 sets line and dot 0, the flag, and
mode 2; any other only stores; while off the PPU does not advance. Shade 0 is the brightest: no shade is brighter by
the model's measure of brightness, a sum of the three channels with open positive weights (log entry 9: R640 gives
no measure), and none that reaches shade 0 in every channel exceeds it in one, whatever the weights. -/
def Obligations.LcdOffAndOn : Prop :=
  ∀ (s : State) (v : Byte),
    (s.ppu.lcdOn = true → v.getLsbD 7 = false → memWrite s 0xFF40 v = .next { s with ppu := { s.ppu with
      lcdc := v, ly := 0, lineDot := 0, mode := .hblank, lycEqual := decide (s.ppu.lyc = 0)
      frame := List.replicate 144 (List.replicate 160
        (if s.model = .cgb then Pixel.colour 0xFFFFFFFF else Pixel.shade 0)) } }) ∧
    (s.ppu.lcdOn = false → v.getLsbD 7 = true → ∃ q, memWrite s 0xFF40 v = .next { s with
      ppu := { s.ppu with lcdc := v, ly := 0, lineDot := 0, mode := .oamScan, lycEqual := decide (s.ppu.lyc = 0) }
      irq := { s.irq with ifByte := q } } ∧
      q = (if s.ppu.statEnable.getLsbD 2 = true ∨
          (s.ppu.lycEqual = false ∧ s.ppu.lyc = 0 ∧ s.ppu.statEnable.getLsbD 3 = true) then
        setBitOf s.irq.ifByte 1 else s.irq.ifByte)) ∧
    (s.ppu.lcdOn = v.getLsbD 7 → memWrite s 0xFF40 v = .next { s with ppu := { s.ppu with lcdc := v } }) ∧
    (∀ d, s.ppu.lcdOn = false → ppuAdvance d s = .next s) ∧
    (∀ n : BitVec 2, let brightest := (Pixel.shade 0).argb
      let word := (Pixel.shade n).argb
      brightness word ≤ brightness brightest ∧
      ((∀ k < 3, colourChannel brightest k ≤ colourChannel word k) →
        ∀ k < 3, colourChannel brightest k = colourChannel word k))

/-- O52 (63_sound.md R705, R741). In every state with the power off each register NR10..NR51 reads 0 and a write to it
changes nothing; NR52 reads 0x70, the power bit and one bit for each channel that is on, and a write to it with bit
7 clear turns the power and every channel off, so that it reads 0x70, and keeps wave RAM; setting the bit again
changes nothing but the power bit, and while it is set a register takes and reads back its byte. -/
def Obligations.SoundPowerOff : Prop :=
  (∀ (s : State) (v : Byte), v.getLsbD 7 = false → ∃ t, memWrite s 0xFF26 v = .next t ∧
    readByte t 0xFF26 = 0x70 ∧ t.sound.waveRam = s.sound.waveRam ∧ t.sound.power = false) ∧
  (∀ (s : State) (a : Word), s.sound.power = false → 0xFF10 ≤ a.toNat → a.toNat ≤ 0xFF25 → ¬ Unimplemented a →
    readByte s a = 0 ∧ ∀ w, memWrite s a w = .next s) ∧
  (∀ s : State, readByte s 0xFF26 = BitVec.ofNat 8 (128 * s.sound.power.toNat + 0x70 + 8 * s.sound.ch4.on.toNat +
    4 * s.sound.ch3.on.toNat + 2 * s.sound.ch2.on.toNat + s.sound.ch1.on.toNat)) ∧
  (∀ (s : State) (v : Byte), v.getLsbD 7 = true →
    memWrite s 0xFF26 v = .next { s with sound := { s.sound with power := true } }) ∧
  (∀ (s : State) (a : Word) (w : Byte), s.sound.power = true → 0xFF10 ≤ a.toNat → a.toNat ≤ 0xFF25 →
    ¬ Unimplemented a → ∃ t, memWrite s a w = .next t ∧ readByte t a = w)

/-- O53 (63_sound.md R701, R702, R740, R745). An advance of d dots takes (sample_acc + 44100 d) div 4194304 samples,
keeps the remainder in sample_acc, and hands over one frame for each, newest first before what was sent. What a
message holds is the model's (log entries 5 and 8): the arguments that SOUND_OUT has had so far, newest first, which
stand for its state; the frame is a pair of reals, stereoFrame of them. By the laws of R745, both sides of every
frame lie in [-1, 1] whatever the open sums and filters are, and a channel that NR51 does not route to a side does
not affect that side's pre-filter sum; by R740, bits 7 and 3 of NR50 have no effect. -/
def Obligations.SampleCount : Prop :=
  (∀ (s : State) (d : Nat),
    ∃ inputs : List SoundInput,
      inputs.length = (s.sound.sampleAcc + 44100 * d) / 4194304 ∧
      (soundAdvance d s).sound.filter = inputs ++ s.sound.filter ∧
      (soundAdvance d s).host.sent =
        (inputs.tails.dropLast.map fun x => HostMessage.audio (x ++ s.sound.filter)) ++ s.host.sent ∧
      (soundAdvance d s).sound.sampleAcc = (s.sound.sampleAcc + 44100 * d) % 4194304) ∧
  (∀ samples : FilterState, -1 ≤ (stereoFrame samples).1 ∧ (stereoFrame samples).1 ≤ 1 ∧
    -1 ≤ (stereoFrame samples).2 ∧ (stereoFrame samples).2 ≤ 1) ∧
  (∀ (side : Side) (i j : SoundInput) (past : FilterState), j.routing = i.routing →
    masterVolume j side = masterVolume i side →
    (routesTo i side 1 = true → j.level1 = i.level1) → (routesTo i side 2 = true → j.level2 = i.level2) →
    (routesTo i side 3 = true → j.level3 = i.level3) → (routesTo i side 4 = true → j.level4 = i.level4) →
    sideSum side j past = sideSum side i past) ∧
  (∀ (u : Sound) (v : Byte), v &&& 0x77 = u.nr50 &&& 0x77 → soundInput { u with nr50 := v } = soundInput u)

/-- O54 (R503, R504). With IME set and interrupt n the lowest requested, the check clears IME and the request, pushes
the address of the next instruction, sets PC to 0x40 + 8 n and advances the devices by 20 ticks at the current
speed; the other registers are as before. With IME clear or nothing requested it does nothing. -/
def Obligations.DispatchTakesLowest : Prop :=
  (∀ (s : State) (n : Nat), s.cpu.ime = true → n < 5 →
    s.irq.ifByte.getLsbD n = true → s.irq.ieByte.getLsbD n = true →
    (∀ k, k < n → ¬ (s.irq.ifByte.getLsbD k = true ∧ s.irq.ieByte.getLsbD k = true)) →
    Mapped s → PushOk s.cpu.sp →
    let s0 := { s.setIme false with irq := { s.irq with ifByte := clearBitOf s.irq.ifByte n } }
    ∃ t u, memWrite (s0.setSp (s.cpu.sp - 1)) (s.cpu.sp - 1) (hiByte s.cpu.pc) = .next t ∧
      memWrite (t.setSp (s.cpu.sp - 2)) (s.cpu.sp - 2) (loByte s.cpu.pc) = .next u ∧
      u.cpu.sp = s.cpu.sp - 2 ∧ u.cpu.ime = false ∧ (∀ r, u.reg r = s.reg r) ∧ u.cpu.f = s.cpu.f ∧
      dispatch s = advance s.cpu.doubleSpeed 20 (u.setPc (BitVec.ofNat 16 (0x40 + 8 * n)))) ∧
  (∀ s : State, s.cpu.ime = false ∨ s.irq.ifByte &&& s.irq.ieByte &&& 0x1F = 0 → dispatch s = .next s)

/-- O55 (R508). At the end of a step a halted CPU leaves HALT exactly when IME is clear or IF and IE have a bit of 4..0
in common; nothing else changes. -/
def Obligations.HaltExit : Prop :=
  ∀ s : State, haltExit s = { s with cpu := { s.cpu with halted :=
    s.cpu.halted && (s.cpu.ime && decide (s.irq.ifByte &&& s.irq.ieByte &&& 0x1F = 0)) } }

/-- O56 (R511). With nothing pending, IME is unchanged at the end of the step of an EI or DI and set or cleared at the
end of the next, the queue then empty; EI followed by DI sets IME for one step and then clears it. In general the
due entries are removed and the others wait one step less; the last due entry decides IME, whatever waits behind it,
and with none due IME is as before. -/
def Obligations.DeferredEnable : Prop :=
  (∀ s : State, (applyPending s).cpu.pending =
    (s.cpu.pending.map fun d => { d with remaining := d.remaining - 1 }).filter fun d => d.remaining ≠ 0) ∧
  (∀ (s : State) (q r : List Deferred) (e : Effect), s.cpu.pending = q ++ { effect := e, remaining := 1 } :: r →
    (∀ d ∈ r, 1 < d.remaining) → (applyPending s).cpu.ime = decide (e = .setIME)) ∧
  (∀ s : State, (∀ d ∈ s.cpu.pending, 1 < d.remaining) → (applyPending s).cpu.ime = s.cpu.ime) ∧
  (∀ s : State, s.cpu.pending = [] →
    ∃ t u, exec .EI s = .next t ∧ (applyPending t).cpu.ime = s.cpu.ime ∧
      (applyPending (applyPending t)).cpu.ime = true ∧ (applyPending (applyPending t)).cpu.pending = [] ∧
      exec .DI (applyPending t) = .next u ∧ (applyPending u).cpu.ime = true ∧
      (applyPending (applyPending u)).cpu.ime = false ∧ (applyPending (applyPending u)).cpu.pending = []) ∧
  (∀ s : State, s.cpu.pending = [] →
    ∃ t, exec .DI s = .next t ∧ (applyPending t).cpu.ime = s.cpu.ime ∧
      (applyPending (applyPending t)).cpu.ime = false ∧ (applyPending (applyPending t)).cpu.pending = [])

/-- O57 (20_memory.md R104, R120, 10_state.md R42, 00_scope.md R8, R9). Whatever a step does, instruction, device or
interrupt, the model, the cartridge and the contents of ROM are as before. -/
def Obligations.StepKeepsParameters : Prop :=
  ∀ s t : State, step s = .next t → t.model = s.model ∧ t.cart = s.cart ∧ t.mem.rom = s.mem.rom

/-- O58 (70_reset_and_hazards.md R800, 10_state.md R36, R39, R40, R42, 20_memory.md R111, 60_exceptions.md R508, R535,
61_timer.md R550, 62_ppu.md R600, R607, 63_sound.md R701). The invariant: F has a zero low nibble, at most one
deferred effect is left and it is due, a halted CPU has nothing to wake for, CGB-only state stays 0 on DMG; every
memory is canonical and within its size; the PPU stands at a position that exists in the mode it stands for, with
the coincidence flag equal to LY = LYC and a framebuffer of 144 by 160; the work-RAM bank is 1..7, the timer
accumulator is below its period while it runs, and no stop is recorded. -/
def Obligations.StepKeepsInvariant : Prop :=
  ∀ s t : State, s.Inv → step s = .next t → t.Inv

/-- O59 (70_reset_and_hazards.md R800). The state after reset, and the default INIT of either model for any cartridge
whose memories are canonical and within its sizes, meet the invariant of StepKeepsInvariant. The bytes R800 leaves
unconstrained are those of log entries 2 and 12. -/
def Obligations.ResetMeetsInvariant : Prop :=
  State.reset.Inv ∧
  ∀ (m : Model) (cart : Cart) (rom ramInit mbc2Init : Memory), m = .dmg ∨ m = .cgb → rom.wf →
    ramInit.sized (cart.ramBanks * 0x2000) → mbc2Init.sized 512 → (State.init m cart rom ramInit mbc2Init).Inv

/-- O60 (70_reset_and_hazards.md R800, R801, 10_state.md R51). The values of the reset table of R800, for both models,
that are not marked U there, with the sound register bytes by the reset column of 10_state.md R51; and what the
registers read as by that column. The model's own: State.reset is the DMG column (log entry 1); the filter state of
SOUND_OUT is the empty history (log entry 8); on DMG the registers marked CGB hold their reset column (log entry
12); the divider has the DMG value on CGB too, as the table gives it (log entry 19). -/
def Obligations.ResetValues : Prop :=
  State.reset = State.init .dmg Cart.plain [] [] [] ∧
  (∀ (cart : Cart) (rom e k : Memory),
    let s := State.init .dmg cart rom e k
    s.af = 0x01B0 ∧ s.bc = 0x0013 ∧ s.de = 0x00D8 ∧ s.hl = 0x014D ∧
    s.ppu.frame = List.replicate 144 (List.replicate 160 (Pixel.shade 0))) ∧
  (∀ (cart : Cart) (rom e k : Memory),
    let s := State.init .cgb cart rom e k
    s.af = 0x1180 ∧ s.bc = 0x0000 ∧ s.de = 0xFF56 ∧ s.hl = 0x000D ∧
    s.ppu.frame = List.replicate 144 (List.replicate 160 (Pixel.colour 0xFFFFFFFF))) ∧
  (∀ (m : Model) (cart : Cart) (rom e k : Memory), m = .dmg ∨ m = .cgb →
    let s := State.init m cart rom e k
    s.model = m ∧ s.cart = cart ∧
    s.cpu.sp = 0xFFFE ∧ s.cpu.pc = 0x0100 ∧ s.cpu.ime = false ∧ s.cpu.halted = false ∧ s.cpu.pending = [] ∧
    s.fault = none ∧ s.cpu.doubleSpeed = false ∧ s.cpu.key1Armed = false ∧
    s.mbc.romBank = 1 ∧ s.mbc.mbc1Low5 = 1 ∧ s.mbc.mbc1Upper = 0 ∧ s.mbc.mbc1Mode = false ∧
    (cart.mbc ≠ .none → s.mbc.ramEnable = false) ∧ (cart.mbc = .none → s.mbc.ramEnable = true) ∧
    s.mbc.ramBank = some 0 ∧ s.mbc.rtcSelect = none ∧ s.mbc.rtcLatchLast = false ∧
    s.mbc.rumble = false ∧ s.mbc.wramBank = 1 ∧ s.mbc.vramBank = false ∧
    s.mem.rom = rom ∧ s.mem.eram = e ∧ s.mem.mbc2ram = k ∧
    s.timer = { divCounter := 0xABCC, timaAcc := 0, tima := 0x00, tma := 0x00, tac := 0xF8 } ∧
    s.irq = { ifByte := 0xE1, ieByte := 0x00 } ∧
    s.ppu.lcdc = 0x91 ∧ s.ppu.statEnable = 0 ∧ s.ppu.ly = 0 ∧ s.ppu.mode = .oamScan ∧ s.ppu.lineDot = 0 ∧
    s.ppu.lycEqual = true ∧ s.ppu.scy = 0 ∧ s.ppu.scx = 0 ∧ s.ppu.lyc = 0 ∧ s.ppu.wy = 0 ∧ s.ppu.wx = 0 ∧
    s.ppu.bgp = 0xFC ∧ s.ppu.dma = 0xFF ∧
    s.sound.power = true ∧ s.sound.nr10 = 0x80 ∧ s.sound.sweepT = 0 ∧ s.sound.nr50 = 0x77 ∧ s.sound.nr51 = 0xF3 ∧
    s.sound.sampleAcc = 0 ∧ s.sound.filter = [] ∧
    s.sound.ch1 = { nrx1 := 0xBF, nrx2 := 0xF3, nrx3 := 0xFF, nrx4 := 0xBF, on := false, lenLeft := 0
                    env := { vol := 0, up := false, period := 0, t := 0 }, freq := 0, phase := 0 } ∧
    s.sound.ch2 = { nrx1 := 0x3F, nrx2 := 0x00, nrx3 := 0xFF, nrx4 := 0xBF, on := false, lenLeft := 0
                    env := { vol := 0, up := false, period := 0, t := 0 }, freq := 0, phase := 0 } ∧
    s.sound.ch3 = { nr30 := 0x7F, nr31 := 0xFF, nr32 := 0x9F, nr33 := 0xFF, nr34 := 0xBF, on := false, lenLeft := 0
                    freq := 0, table := List.replicate 32 0, index := 0, volCode := s.sound.ch3.volCode, t := 0 } ∧
    s.sound.ch4 = { nr41 := 0xFF, nr42 := 0x00, nr43 := 0x00, nr44 := 0xBF, on := false, lenLeft := 0
                    env := { vol := 0, up := false, period := 0, t := 0 }, lfsr := 0x7FFF, t := 0 } ∧
    s.hdma = { reg1 := 0xFF, reg2 := 0xFF, reg3 := 0xFF, reg4 := 0xFF, src := 0xFFF0, dst := 0x1FF0
               left := 0, hblank := false, stall := 0 } ∧
    s.keypad = { keys := 0, select := 0 } ∧ s.serial = { sb := 0x00, sc := 0x7E, busy := false } ∧
    ([0xFF10, 0xFF11, 0xFF12, 0xFF13, 0xFF14, 0xFF16, 0xFF17, 0xFF18, 0xFF19].map (readByte s) =
      [0x80, 0xBF, 0xF3, 0xFF, 0xBF, 0x3F, 0x00, 0xFF, 0xBF]) ∧
    ([0xFF1A, 0xFF1B, 0xFF1C, 0xFF1D, 0xFF1E, 0xFF20, 0xFF21, 0xFF22, 0xFF23, 0xFF24, 0xFF25, 0xFF26].map (readByte s) =
      [0x7F, 0xFF, 0x9F, 0xFF, 0xBF, 0xFF, 0x00, 0x00, 0xBF, 0x77, 0xF3, 0xF0]) ∧
    ([0xFF00, 0xFF01, 0xFF02, 0xFF04, 0xFF05, 0xFF06, 0xFF07, 0xFF0F, 0xFFFF].map (readByte s) =
      [0xCF, 0x00, 0x7E, 0xAB, 0x00, 0x00, 0xF8, 0xE1, 0x00]) ∧
    ([0xFF40, 0xFF41, 0xFF42, 0xFF43, 0xFF44, 0xFF45, 0xFF46, 0xFF47, 0xFF4A, 0xFF4B].map (readByte s) =
      [0x91, 0x86, 0x00, 0x00, 0x00, 0x00, 0xFF, 0xFC, 0x00, 0x00]) ∧
    ([0xFF4D, 0xFF4F, 0xFF51, 0xFF52, 0xFF53, 0xFF54, 0xFF55, 0xFF70].map (readByte s) =
      [0x7E, 0xFE, 0xFF, 0xFF, 0xFF, 0xFF, 0xFF, 0xF9]))
end

