-- ==== Sys2Proof/Laws/Out.lean ====
section
/-! SUPPORT. Going on from an outcome. -/

namespace Sys2Proof.Machine

@[simp] theorem andThen_next {α β : Type} (a : α) (f : α → Out β) : andThen (.next a) f = f a := rfl

@[simp] theorem andThen_fault {α β : Type} (r : Fault) (f : α → Out β) :
    andThen (.fault r : Out α) f = .fault r := rfl

@[simp] theorem andThen_refused {α β : Type} (r : Refusal) (f : α → Out β) :
    andThen (.refused r : Out α) f = .refused r := rfl

/-- An outcome that goes on came from two that go on. -/
theorem andThen_eq_next {α β : Type} {o : Out α} {f : α → Out β} {b : β} :
    andThen o f = .next b ↔ ∃ a, o = .next a ∧ f a = .next b := by
  cases o <;> simp

theorem andThen_assoc {α β γ : Type} (o : Out α) (f : α → Out β) (g : β → Out γ) :
    andThen (andThen o f) g = andThen o fun a => andThen (f a) g := by
  cases o <;> rfl

@[simp] theorem andThen_stopWith {α β : Type} (k : StopKind) (s : State) (f : α → Out β) :
    andThen (stopWith k s : Out α) f = stopWith k s := by
  cases k <;> rfl

@[simp] theorem stopWith_ne_next {α : Type} (k : StopKind) (s : State) (a : α) : stopWith k s ≠ .next a := by
  cases k <;> simp [stopWith]

end Sys2Proof.Machine
end

