-- ==== Sys2Proof/Laws/State.lean ====
section
/-! SUPPORT. One lemma per field per named update of the state, and the reads of what an update wrote. -/

namespace Sys2Proof.Machine

@[simp] theorem model_setReg (s : State) (r : Reg) (v : Byte) : (s.setReg r v).model = s.model := rfl
@[simp] theorem cart_setReg (s : State) (r : Reg) (v : Byte) : (s.setReg r v).cart = s.cart := rfl
@[simp] theorem irq_setReg (s : State) (r : Reg) (v : Byte) : (s.setReg r v).irq = s.irq := rfl
@[simp] theorem mem_setReg (s : State) (r : Reg) (v : Byte) : (s.setReg r v).mem = s.mem := rfl
@[simp] theorem mbc_setReg (s : State) (r : Reg) (v : Byte) : (s.setReg r v).mbc = s.mbc := rfl
@[simp] theorem hdma_setReg (s : State) (r : Reg) (v : Byte) : (s.setReg r v).hdma = s.hdma := rfl
@[simp] theorem timer_setReg (s : State) (r : Reg) (v : Byte) : (s.setReg r v).timer = s.timer := rfl
@[simp] theorem ppu_setReg (s : State) (r : Reg) (v : Byte) : (s.setReg r v).ppu = s.ppu := rfl
@[simp] theorem sound_setReg (s : State) (r : Reg) (v : Byte) : (s.setReg r v).sound = s.sound := rfl
@[simp] theorem keypad_setReg (s : State) (r : Reg) (v : Byte) : (s.setReg r v).keypad = s.keypad := rfl
@[simp] theorem serial_setReg (s : State) (r : Reg) (v : Byte) : (s.setReg r v).serial = s.serial := rfl
@[simp] theorem host_setReg (s : State) (r : Reg) (v : Byte) : (s.setReg r v).host = s.host := rfl
@[simp] theorem cost_setReg (s : State) (r : Reg) (v : Byte) : (s.setReg r v).cost = s.cost := rfl
@[simp] theorem extra_setReg (s : State) (r : Reg) (v : Byte) : (s.setReg r v).extra = s.extra := rfl
@[simp] theorem fault_setReg (s : State) (r : Reg) (v : Byte) : (s.setReg r v).fault = s.fault := rfl
@[simp] theorem cpu_f_setReg (s : State) (r : Reg) (v : Byte) : (s.setReg r v).cpu.f = s.cpu.f := by cases r <;> rfl
@[simp] theorem cpu_sp_setReg (s : State) (r : Reg) (v : Byte) : (s.setReg r v).cpu.sp = s.cpu.sp := by cases r <;> rfl
@[simp] theorem cpu_pc_setReg (s : State) (r : Reg) (v : Byte) : (s.setReg r v).cpu.pc = s.cpu.pc := by cases r <;> rfl
@[simp] theorem cpu_ime_setReg (s : State) (r : Reg) (v : Byte) : (s.setReg r v).cpu.ime = s.cpu.ime := by cases r <;> rfl
@[simp] theorem cpu_halted_setReg (s : State) (r : Reg) (v : Byte) : (s.setReg r v).cpu.halted = s.cpu.halted := by cases r <;> rfl
@[simp] theorem cpu_pending_setReg (s : State) (r : Reg) (v : Byte) : (s.setReg r v).cpu.pending = s.cpu.pending := by cases r <;> rfl
@[simp] theorem cpu_doubleSpeed_setReg (s : State) (r : Reg) (v : Byte) : (s.setReg r v).cpu.doubleSpeed = s.cpu.doubleSpeed := by cases r <;> rfl
@[simp] theorem cpu_key1Armed_setReg (s : State) (r : Reg) (v : Byte) : (s.setReg r v).cpu.key1Armed = s.cpu.key1Armed := by cases r <;> rfl

@[simp] theorem model_setR16 (s : State) (r : R16) (v : Word) : (s.setR16 r v).model = s.model := rfl
@[simp] theorem cart_setR16 (s : State) (r : R16) (v : Word) : (s.setR16 r v).cart = s.cart := rfl
@[simp] theorem irq_setR16 (s : State) (r : R16) (v : Word) : (s.setR16 r v).irq = s.irq := rfl
@[simp] theorem mem_setR16 (s : State) (r : R16) (v : Word) : (s.setR16 r v).mem = s.mem := rfl
@[simp] theorem mbc_setR16 (s : State) (r : R16) (v : Word) : (s.setR16 r v).mbc = s.mbc := rfl
@[simp] theorem hdma_setR16 (s : State) (r : R16) (v : Word) : (s.setR16 r v).hdma = s.hdma := rfl
@[simp] theorem timer_setR16 (s : State) (r : R16) (v : Word) : (s.setR16 r v).timer = s.timer := rfl
@[simp] theorem ppu_setR16 (s : State) (r : R16) (v : Word) : (s.setR16 r v).ppu = s.ppu := rfl
@[simp] theorem sound_setR16 (s : State) (r : R16) (v : Word) : (s.setR16 r v).sound = s.sound := rfl
@[simp] theorem keypad_setR16 (s : State) (r : R16) (v : Word) : (s.setR16 r v).keypad = s.keypad := rfl
@[simp] theorem serial_setR16 (s : State) (r : R16) (v : Word) : (s.setR16 r v).serial = s.serial := rfl
@[simp] theorem host_setR16 (s : State) (r : R16) (v : Word) : (s.setR16 r v).host = s.host := rfl
@[simp] theorem cost_setR16 (s : State) (r : R16) (v : Word) : (s.setR16 r v).cost = s.cost := rfl
@[simp] theorem extra_setR16 (s : State) (r : R16) (v : Word) : (s.setR16 r v).extra = s.extra := rfl
@[simp] theorem fault_setR16 (s : State) (r : R16) (v : Word) : (s.setR16 r v).fault = s.fault := rfl
@[simp] theorem cpu_a_setR16 (s : State) (r : R16) (v : Word) : (s.setR16 r v).cpu.a = s.cpu.a := by cases r <;> rfl
@[simp] theorem cpu_f_setR16 (s : State) (r : R16) (v : Word) : (s.setR16 r v).cpu.f = s.cpu.f := by cases r <;> rfl
@[simp] theorem cpu_pc_setR16 (s : State) (r : R16) (v : Word) : (s.setR16 r v).cpu.pc = s.cpu.pc := by cases r <;> rfl
@[simp] theorem cpu_ime_setR16 (s : State) (r : R16) (v : Word) : (s.setR16 r v).cpu.ime = s.cpu.ime := by cases r <;> rfl
@[simp] theorem cpu_halted_setR16 (s : State) (r : R16) (v : Word) : (s.setR16 r v).cpu.halted = s.cpu.halted := by cases r <;> rfl
@[simp] theorem cpu_pending_setR16 (s : State) (r : R16) (v : Word) : (s.setR16 r v).cpu.pending = s.cpu.pending := by cases r <;> rfl
@[simp] theorem cpu_doubleSpeed_setR16 (s : State) (r : R16) (v : Word) : (s.setR16 r v).cpu.doubleSpeed = s.cpu.doubleSpeed := by cases r <;> rfl
@[simp] theorem cpu_key1Armed_setR16 (s : State) (r : R16) (v : Word) : (s.setR16 r v).cpu.key1Armed = s.cpu.key1Armed := by cases r <;> rfl

@[simp] theorem model_setR16stk (s : State) (r : R16Stk) (v : Word) : (s.setR16stk r v).model = s.model := rfl
@[simp] theorem cart_setR16stk (s : State) (r : R16Stk) (v : Word) : (s.setR16stk r v).cart = s.cart := rfl
@[simp] theorem irq_setR16stk (s : State) (r : R16Stk) (v : Word) : (s.setR16stk r v).irq = s.irq := rfl
@[simp] theorem mem_setR16stk (s : State) (r : R16Stk) (v : Word) : (s.setR16stk r v).mem = s.mem := rfl
@[simp] theorem mbc_setR16stk (s : State) (r : R16Stk) (v : Word) : (s.setR16stk r v).mbc = s.mbc := rfl
@[simp] theorem hdma_setR16stk (s : State) (r : R16Stk) (v : Word) : (s.setR16stk r v).hdma = s.hdma := rfl
@[simp] theorem timer_setR16stk (s : State) (r : R16Stk) (v : Word) : (s.setR16stk r v).timer = s.timer := rfl
@[simp] theorem ppu_setR16stk (s : State) (r : R16Stk) (v : Word) : (s.setR16stk r v).ppu = s.ppu := rfl
@[simp] theorem sound_setR16stk (s : State) (r : R16Stk) (v : Word) : (s.setR16stk r v).sound = s.sound := rfl
@[simp] theorem keypad_setR16stk (s : State) (r : R16Stk) (v : Word) : (s.setR16stk r v).keypad = s.keypad := rfl
@[simp] theorem serial_setR16stk (s : State) (r : R16Stk) (v : Word) : (s.setR16stk r v).serial = s.serial := rfl
@[simp] theorem host_setR16stk (s : State) (r : R16Stk) (v : Word) : (s.setR16stk r v).host = s.host := rfl
@[simp] theorem cost_setR16stk (s : State) (r : R16Stk) (v : Word) : (s.setR16stk r v).cost = s.cost := rfl
@[simp] theorem extra_setR16stk (s : State) (r : R16Stk) (v : Word) : (s.setR16stk r v).extra = s.extra := rfl
@[simp] theorem fault_setR16stk (s : State) (r : R16Stk) (v : Word) : (s.setR16stk r v).fault = s.fault := rfl
@[simp] theorem cpu_sp_setR16stk (s : State) (r : R16Stk) (v : Word) : (s.setR16stk r v).cpu.sp = s.cpu.sp := by cases r <;> rfl
@[simp] theorem cpu_pc_setR16stk (s : State) (r : R16Stk) (v : Word) : (s.setR16stk r v).cpu.pc = s.cpu.pc := by cases r <;> rfl
@[simp] theorem cpu_ime_setR16stk (s : State) (r : R16Stk) (v : Word) : (s.setR16stk r v).cpu.ime = s.cpu.ime := by cases r <;> rfl
@[simp] theorem cpu_halted_setR16stk (s : State) (r : R16Stk) (v : Word) : (s.setR16stk r v).cpu.halted = s.cpu.halted := by cases r <;> rfl
@[simp] theorem cpu_pending_setR16stk (s : State) (r : R16Stk) (v : Word) : (s.setR16stk r v).cpu.pending = s.cpu.pending := by cases r <;> rfl
@[simp] theorem cpu_doubleSpeed_setR16stk (s : State) (r : R16Stk) (v : Word) : (s.setR16stk r v).cpu.doubleSpeed = s.cpu.doubleSpeed := by cases r <;> rfl
@[simp] theorem cpu_key1Armed_setR16stk (s : State) (r : R16Stk) (v : Word) : (s.setR16stk r v).cpu.key1Armed = s.cpu.key1Armed := by cases r <;> rfl

@[simp] theorem model_setFlags (s : State) (z n h c : Bool) : (s.setFlags z n h c).model = s.model := rfl
@[simp] theorem cart_setFlags (s : State) (z n h c : Bool) : (s.setFlags z n h c).cart = s.cart := rfl
@[simp] theorem irq_setFlags (s : State) (z n h c : Bool) : (s.setFlags z n h c).irq = s.irq := rfl
@[simp] theorem mem_setFlags (s : State) (z n h c : Bool) : (s.setFlags z n h c).mem = s.mem := rfl
@[simp] theorem mbc_setFlags (s : State) (z n h c : Bool) : (s.setFlags z n h c).mbc = s.mbc := rfl
@[simp] theorem hdma_setFlags (s : State) (z n h c : Bool) : (s.setFlags z n h c).hdma = s.hdma := rfl
@[simp] theorem timer_setFlags (s : State) (z n h c : Bool) : (s.setFlags z n h c).timer = s.timer := rfl
@[simp] theorem ppu_setFlags (s : State) (z n h c : Bool) : (s.setFlags z n h c).ppu = s.ppu := rfl
@[simp] theorem sound_setFlags (s : State) (z n h c : Bool) : (s.setFlags z n h c).sound = s.sound := rfl
@[simp] theorem keypad_setFlags (s : State) (z n h c : Bool) : (s.setFlags z n h c).keypad = s.keypad := rfl
@[simp] theorem serial_setFlags (s : State) (z n h c : Bool) : (s.setFlags z n h c).serial = s.serial := rfl
@[simp] theorem host_setFlags (s : State) (z n h c : Bool) : (s.setFlags z n h c).host = s.host := rfl
@[simp] theorem cost_setFlags (s : State) (z n h c : Bool) : (s.setFlags z n h c).cost = s.cost := rfl
@[simp] theorem extra_setFlags (s : State) (z n h c : Bool) : (s.setFlags z n h c).extra = s.extra := rfl
@[simp] theorem fault_setFlags (s : State) (z n h c : Bool) : (s.setFlags z n h c).fault = s.fault := rfl
@[simp] theorem cpu_a_setFlags (s : State) (z n h c : Bool) : (s.setFlags z n h c).cpu.a = s.cpu.a := rfl
@[simp] theorem cpu_b_setFlags (s : State) (z n h c : Bool) : (s.setFlags z n h c).cpu.b = s.cpu.b := rfl
@[simp] theorem cpu_c_setFlags (s : State) (z n h c : Bool) : (s.setFlags z n h c).cpu.c = s.cpu.c := rfl
@[simp] theorem cpu_d_setFlags (s : State) (z n h c : Bool) : (s.setFlags z n h c).cpu.d = s.cpu.d := rfl
@[simp] theorem cpu_e_setFlags (s : State) (z n h c : Bool) : (s.setFlags z n h c).cpu.e = s.cpu.e := rfl
@[simp] theorem cpu_h_setFlags (s : State) (z n h c : Bool) : (s.setFlags z n h c).cpu.h = s.cpu.h := rfl
@[simp] theorem cpu_l_setFlags (s : State) (z n h c : Bool) : (s.setFlags z n h c).cpu.l = s.cpu.l := rfl
@[simp] theorem cpu_sp_setFlags (s : State) (z n h c : Bool) : (s.setFlags z n h c).cpu.sp = s.cpu.sp := rfl
@[simp] theorem cpu_pc_setFlags (s : State) (z n h c : Bool) : (s.setFlags z n h c).cpu.pc = s.cpu.pc := rfl
@[simp] theorem cpu_ime_setFlags (s : State) (z n h c : Bool) : (s.setFlags z n h c).cpu.ime = s.cpu.ime := rfl
@[simp] theorem cpu_halted_setFlags (s : State) (z n h c : Bool) : (s.setFlags z n h c).cpu.halted = s.cpu.halted := rfl
@[simp] theorem cpu_pending_setFlags (s : State) (z n h c : Bool) : (s.setFlags z n h c).cpu.pending = s.cpu.pending := rfl
@[simp] theorem cpu_doubleSpeed_setFlags (s : State) (z n h c : Bool) : (s.setFlags z n h c).cpu.doubleSpeed = s.cpu.doubleSpeed := rfl
@[simp] theorem cpu_key1Armed_setFlags (s : State) (z n h c : Bool) : (s.setFlags z n h c).cpu.key1Armed = s.cpu.key1Armed := rfl

@[simp] theorem model_putFlags (s : State) (x : FlagSet) : (s.putFlags x).model = s.model := rfl
@[simp] theorem cart_putFlags (s : State) (x : FlagSet) : (s.putFlags x).cart = s.cart := rfl
@[simp] theorem irq_putFlags (s : State) (x : FlagSet) : (s.putFlags x).irq = s.irq := rfl
@[simp] theorem mem_putFlags (s : State) (x : FlagSet) : (s.putFlags x).mem = s.mem := rfl
@[simp] theorem mbc_putFlags (s : State) (x : FlagSet) : (s.putFlags x).mbc = s.mbc := rfl
@[simp] theorem hdma_putFlags (s : State) (x : FlagSet) : (s.putFlags x).hdma = s.hdma := rfl
@[simp] theorem timer_putFlags (s : State) (x : FlagSet) : (s.putFlags x).timer = s.timer := rfl
@[simp] theorem ppu_putFlags (s : State) (x : FlagSet) : (s.putFlags x).ppu = s.ppu := rfl
@[simp] theorem sound_putFlags (s : State) (x : FlagSet) : (s.putFlags x).sound = s.sound := rfl
@[simp] theorem keypad_putFlags (s : State) (x : FlagSet) : (s.putFlags x).keypad = s.keypad := rfl
@[simp] theorem serial_putFlags (s : State) (x : FlagSet) : (s.putFlags x).serial = s.serial := rfl
@[simp] theorem host_putFlags (s : State) (x : FlagSet) : (s.putFlags x).host = s.host := rfl
@[simp] theorem cost_putFlags (s : State) (x : FlagSet) : (s.putFlags x).cost = s.cost := rfl
@[simp] theorem extra_putFlags (s : State) (x : FlagSet) : (s.putFlags x).extra = s.extra := rfl
@[simp] theorem fault_putFlags (s : State) (x : FlagSet) : (s.putFlags x).fault = s.fault := rfl
@[simp] theorem cpu_a_putFlags (s : State) (x : FlagSet) : (s.putFlags x).cpu.a = s.cpu.a := rfl
@[simp] theorem cpu_b_putFlags (s : State) (x : FlagSet) : (s.putFlags x).cpu.b = s.cpu.b := rfl
@[simp] theorem cpu_c_putFlags (s : State) (x : FlagSet) : (s.putFlags x).cpu.c = s.cpu.c := rfl
@[simp] theorem cpu_d_putFlags (s : State) (x : FlagSet) : (s.putFlags x).cpu.d = s.cpu.d := rfl
@[simp] theorem cpu_e_putFlags (s : State) (x : FlagSet) : (s.putFlags x).cpu.e = s.cpu.e := rfl
@[simp] theorem cpu_h_putFlags (s : State) (x : FlagSet) : (s.putFlags x).cpu.h = s.cpu.h := rfl
@[simp] theorem cpu_l_putFlags (s : State) (x : FlagSet) : (s.putFlags x).cpu.l = s.cpu.l := rfl
@[simp] theorem cpu_sp_putFlags (s : State) (x : FlagSet) : (s.putFlags x).cpu.sp = s.cpu.sp := rfl
@[simp] theorem cpu_pc_putFlags (s : State) (x : FlagSet) : (s.putFlags x).cpu.pc = s.cpu.pc := rfl
@[simp] theorem cpu_ime_putFlags (s : State) (x : FlagSet) : (s.putFlags x).cpu.ime = s.cpu.ime := rfl
@[simp] theorem cpu_halted_putFlags (s : State) (x : FlagSet) : (s.putFlags x).cpu.halted = s.cpu.halted := rfl
@[simp] theorem cpu_pending_putFlags (s : State) (x : FlagSet) : (s.putFlags x).cpu.pending = s.cpu.pending := rfl
@[simp] theorem cpu_doubleSpeed_putFlags (s : State) (x : FlagSet) : (s.putFlags x).cpu.doubleSpeed = s.cpu.doubleSpeed := rfl
@[simp] theorem cpu_key1Armed_putFlags (s : State) (x : FlagSet) : (s.putFlags x).cpu.key1Armed = s.cpu.key1Armed := rfl

@[simp] theorem model_setPc (s : State) (v : Word) : (s.setPc v).model = s.model := rfl
@[simp] theorem cart_setPc (s : State) (v : Word) : (s.setPc v).cart = s.cart := rfl
@[simp] theorem irq_setPc (s : State) (v : Word) : (s.setPc v).irq = s.irq := rfl
@[simp] theorem mem_setPc (s : State) (v : Word) : (s.setPc v).mem = s.mem := rfl
@[simp] theorem mbc_setPc (s : State) (v : Word) : (s.setPc v).mbc = s.mbc := rfl
@[simp] theorem hdma_setPc (s : State) (v : Word) : (s.setPc v).hdma = s.hdma := rfl
@[simp] theorem timer_setPc (s : State) (v : Word) : (s.setPc v).timer = s.timer := rfl
@[simp] theorem ppu_setPc (s : State) (v : Word) : (s.setPc v).ppu = s.ppu := rfl
@[simp] theorem sound_setPc (s : State) (v : Word) : (s.setPc v).sound = s.sound := rfl
@[simp] theorem keypad_setPc (s : State) (v : Word) : (s.setPc v).keypad = s.keypad := rfl
@[simp] theorem serial_setPc (s : State) (v : Word) : (s.setPc v).serial = s.serial := rfl
@[simp] theorem host_setPc (s : State) (v : Word) : (s.setPc v).host = s.host := rfl
@[simp] theorem cost_setPc (s : State) (v : Word) : (s.setPc v).cost = s.cost := rfl
@[simp] theorem extra_setPc (s : State) (v : Word) : (s.setPc v).extra = s.extra := rfl
@[simp] theorem fault_setPc (s : State) (v : Word) : (s.setPc v).fault = s.fault := rfl
@[simp] theorem cpu_a_setPc (s : State) (v : Word) : (s.setPc v).cpu.a = s.cpu.a := rfl
@[simp] theorem cpu_f_setPc (s : State) (v : Word) : (s.setPc v).cpu.f = s.cpu.f := rfl
@[simp] theorem cpu_b_setPc (s : State) (v : Word) : (s.setPc v).cpu.b = s.cpu.b := rfl
@[simp] theorem cpu_c_setPc (s : State) (v : Word) : (s.setPc v).cpu.c = s.cpu.c := rfl
@[simp] theorem cpu_d_setPc (s : State) (v : Word) : (s.setPc v).cpu.d = s.cpu.d := rfl
@[simp] theorem cpu_e_setPc (s : State) (v : Word) : (s.setPc v).cpu.e = s.cpu.e := rfl
@[simp] theorem cpu_h_setPc (s : State) (v : Word) : (s.setPc v).cpu.h = s.cpu.h := rfl
@[simp] theorem cpu_l_setPc (s : State) (v : Word) : (s.setPc v).cpu.l = s.cpu.l := rfl
@[simp] theorem cpu_sp_setPc (s : State) (v : Word) : (s.setPc v).cpu.sp = s.cpu.sp := rfl
@[simp] theorem cpu_ime_setPc (s : State) (v : Word) : (s.setPc v).cpu.ime = s.cpu.ime := rfl
@[simp] theorem cpu_halted_setPc (s : State) (v : Word) : (s.setPc v).cpu.halted = s.cpu.halted := rfl
@[simp] theorem cpu_pending_setPc (s : State) (v : Word) : (s.setPc v).cpu.pending = s.cpu.pending := rfl
@[simp] theorem cpu_doubleSpeed_setPc (s : State) (v : Word) : (s.setPc v).cpu.doubleSpeed = s.cpu.doubleSpeed := rfl
@[simp] theorem cpu_key1Armed_setPc (s : State) (v : Word) : (s.setPc v).cpu.key1Armed = s.cpu.key1Armed := rfl

@[simp] theorem model_setSp (s : State) (v : Word) : (s.setSp v).model = s.model := rfl
@[simp] theorem cart_setSp (s : State) (v : Word) : (s.setSp v).cart = s.cart := rfl
@[simp] theorem irq_setSp (s : State) (v : Word) : (s.setSp v).irq = s.irq := rfl
@[simp] theorem mem_setSp (s : State) (v : Word) : (s.setSp v).mem = s.mem := rfl
@[simp] theorem mbc_setSp (s : State) (v : Word) : (s.setSp v).mbc = s.mbc := rfl
@[simp] theorem hdma_setSp (s : State) (v : Word) : (s.setSp v).hdma = s.hdma := rfl
@[simp] theorem timer_setSp (s : State) (v : Word) : (s.setSp v).timer = s.timer := rfl
@[simp] theorem ppu_setSp (s : State) (v : Word) : (s.setSp v).ppu = s.ppu := rfl
@[simp] theorem sound_setSp (s : State) (v : Word) : (s.setSp v).sound = s.sound := rfl
@[simp] theorem keypad_setSp (s : State) (v : Word) : (s.setSp v).keypad = s.keypad := rfl
@[simp] theorem serial_setSp (s : State) (v : Word) : (s.setSp v).serial = s.serial := rfl
@[simp] theorem host_setSp (s : State) (v : Word) : (s.setSp v).host = s.host := rfl
@[simp] theorem cost_setSp (s : State) (v : Word) : (s.setSp v).cost = s.cost := rfl
@[simp] theorem extra_setSp (s : State) (v : Word) : (s.setSp v).extra = s.extra := rfl
@[simp] theorem fault_setSp (s : State) (v : Word) : (s.setSp v).fault = s.fault := rfl
@[simp] theorem cpu_a_setSp (s : State) (v : Word) : (s.setSp v).cpu.a = s.cpu.a := rfl
@[simp] theorem cpu_f_setSp (s : State) (v : Word) : (s.setSp v).cpu.f = s.cpu.f := rfl
@[simp] theorem cpu_b_setSp (s : State) (v : Word) : (s.setSp v).cpu.b = s.cpu.b := rfl
@[simp] theorem cpu_c_setSp (s : State) (v : Word) : (s.setSp v).cpu.c = s.cpu.c := rfl
@[simp] theorem cpu_d_setSp (s : State) (v : Word) : (s.setSp v).cpu.d = s.cpu.d := rfl
@[simp] theorem cpu_e_setSp (s : State) (v : Word) : (s.setSp v).cpu.e = s.cpu.e := rfl
@[simp] theorem cpu_h_setSp (s : State) (v : Word) : (s.setSp v).cpu.h = s.cpu.h := rfl
@[simp] theorem cpu_l_setSp (s : State) (v : Word) : (s.setSp v).cpu.l = s.cpu.l := rfl
@[simp] theorem cpu_pc_setSp (s : State) (v : Word) : (s.setSp v).cpu.pc = s.cpu.pc := rfl
@[simp] theorem cpu_ime_setSp (s : State) (v : Word) : (s.setSp v).cpu.ime = s.cpu.ime := rfl
@[simp] theorem cpu_halted_setSp (s : State) (v : Word) : (s.setSp v).cpu.halted = s.cpu.halted := rfl
@[simp] theorem cpu_pending_setSp (s : State) (v : Word) : (s.setSp v).cpu.pending = s.cpu.pending := rfl
@[simp] theorem cpu_doubleSpeed_setSp (s : State) (v : Word) : (s.setSp v).cpu.doubleSpeed = s.cpu.doubleSpeed := rfl
@[simp] theorem cpu_key1Armed_setSp (s : State) (v : Word) : (s.setSp v).cpu.key1Armed = s.cpu.key1Armed := rfl

@[simp] theorem model_setIme (s : State) (v : Bool) : (s.setIme v).model = s.model := rfl
@[simp] theorem cart_setIme (s : State) (v : Bool) : (s.setIme v).cart = s.cart := rfl
@[simp] theorem irq_setIme (s : State) (v : Bool) : (s.setIme v).irq = s.irq := rfl
@[simp] theorem mem_setIme (s : State) (v : Bool) : (s.setIme v).mem = s.mem := rfl
@[simp] theorem mbc_setIme (s : State) (v : Bool) : (s.setIme v).mbc = s.mbc := rfl
@[simp] theorem hdma_setIme (s : State) (v : Bool) : (s.setIme v).hdma = s.hdma := rfl
@[simp] theorem timer_setIme (s : State) (v : Bool) : (s.setIme v).timer = s.timer := rfl
@[simp] theorem ppu_setIme (s : State) (v : Bool) : (s.setIme v).ppu = s.ppu := rfl
@[simp] theorem sound_setIme (s : State) (v : Bool) : (s.setIme v).sound = s.sound := rfl
@[simp] theorem keypad_setIme (s : State) (v : Bool) : (s.setIme v).keypad = s.keypad := rfl
@[simp] theorem serial_setIme (s : State) (v : Bool) : (s.setIme v).serial = s.serial := rfl
@[simp] theorem host_setIme (s : State) (v : Bool) : (s.setIme v).host = s.host := rfl
@[simp] theorem cost_setIme (s : State) (v : Bool) : (s.setIme v).cost = s.cost := rfl
@[simp] theorem extra_setIme (s : State) (v : Bool) : (s.setIme v).extra = s.extra := rfl
@[simp] theorem fault_setIme (s : State) (v : Bool) : (s.setIme v).fault = s.fault := rfl
@[simp] theorem cpu_a_setIme (s : State) (v : Bool) : (s.setIme v).cpu.a = s.cpu.a := rfl
@[simp] theorem cpu_f_setIme (s : State) (v : Bool) : (s.setIme v).cpu.f = s.cpu.f := rfl
@[simp] theorem cpu_b_setIme (s : State) (v : Bool) : (s.setIme v).cpu.b = s.cpu.b := rfl
@[simp] theorem cpu_c_setIme (s : State) (v : Bool) : (s.setIme v).cpu.c = s.cpu.c := rfl
@[simp] theorem cpu_d_setIme (s : State) (v : Bool) : (s.setIme v).cpu.d = s.cpu.d := rfl
@[simp] theorem cpu_e_setIme (s : State) (v : Bool) : (s.setIme v).cpu.e = s.cpu.e := rfl
@[simp] theorem cpu_h_setIme (s : State) (v : Bool) : (s.setIme v).cpu.h = s.cpu.h := rfl
@[simp] theorem cpu_l_setIme (s : State) (v : Bool) : (s.setIme v).cpu.l = s.cpu.l := rfl
@[simp] theorem cpu_sp_setIme (s : State) (v : Bool) : (s.setIme v).cpu.sp = s.cpu.sp := rfl
@[simp] theorem cpu_pc_setIme (s : State) (v : Bool) : (s.setIme v).cpu.pc = s.cpu.pc := rfl
@[simp] theorem cpu_halted_setIme (s : State) (v : Bool) : (s.setIme v).cpu.halted = s.cpu.halted := rfl
@[simp] theorem cpu_pending_setIme (s : State) (v : Bool) : (s.setIme v).cpu.pending = s.cpu.pending := rfl
@[simp] theorem cpu_doubleSpeed_setIme (s : State) (v : Bool) : (s.setIme v).cpu.doubleSpeed = s.cpu.doubleSpeed := rfl
@[simp] theorem cpu_key1Armed_setIme (s : State) (v : Bool) : (s.setIme v).cpu.key1Armed = s.cpu.key1Armed := rfl

@[simp] theorem model_setHalted (s : State) (v : Bool) : (s.setHalted v).model = s.model := rfl
@[simp] theorem cart_setHalted (s : State) (v : Bool) : (s.setHalted v).cart = s.cart := rfl
@[simp] theorem irq_setHalted (s : State) (v : Bool) : (s.setHalted v).irq = s.irq := rfl
@[simp] theorem mem_setHalted (s : State) (v : Bool) : (s.setHalted v).mem = s.mem := rfl
@[simp] theorem mbc_setHalted (s : State) (v : Bool) : (s.setHalted v).mbc = s.mbc := rfl
@[simp] theorem hdma_setHalted (s : State) (v : Bool) : (s.setHalted v).hdma = s.hdma := rfl
@[simp] theorem timer_setHalted (s : State) (v : Bool) : (s.setHalted v).timer = s.timer := rfl
@[simp] theorem ppu_setHalted (s : State) (v : Bool) : (s.setHalted v).ppu = s.ppu := rfl
@[simp] theorem sound_setHalted (s : State) (v : Bool) : (s.setHalted v).sound = s.sound := rfl
@[simp] theorem keypad_setHalted (s : State) (v : Bool) : (s.setHalted v).keypad = s.keypad := rfl
@[simp] theorem serial_setHalted (s : State) (v : Bool) : (s.setHalted v).serial = s.serial := rfl
@[simp] theorem host_setHalted (s : State) (v : Bool) : (s.setHalted v).host = s.host := rfl
@[simp] theorem cost_setHalted (s : State) (v : Bool) : (s.setHalted v).cost = s.cost := rfl
@[simp] theorem extra_setHalted (s : State) (v : Bool) : (s.setHalted v).extra = s.extra := rfl
@[simp] theorem fault_setHalted (s : State) (v : Bool) : (s.setHalted v).fault = s.fault := rfl
@[simp] theorem cpu_a_setHalted (s : State) (v : Bool) : (s.setHalted v).cpu.a = s.cpu.a := rfl
@[simp] theorem cpu_f_setHalted (s : State) (v : Bool) : (s.setHalted v).cpu.f = s.cpu.f := rfl
@[simp] theorem cpu_b_setHalted (s : State) (v : Bool) : (s.setHalted v).cpu.b = s.cpu.b := rfl
@[simp] theorem cpu_c_setHalted (s : State) (v : Bool) : (s.setHalted v).cpu.c = s.cpu.c := rfl
@[simp] theorem cpu_d_setHalted (s : State) (v : Bool) : (s.setHalted v).cpu.d = s.cpu.d := rfl
@[simp] theorem cpu_e_setHalted (s : State) (v : Bool) : (s.setHalted v).cpu.e = s.cpu.e := rfl
@[simp] theorem cpu_h_setHalted (s : State) (v : Bool) : (s.setHalted v).cpu.h = s.cpu.h := rfl
@[simp] theorem cpu_l_setHalted (s : State) (v : Bool) : (s.setHalted v).cpu.l = s.cpu.l := rfl
@[simp] theorem cpu_sp_setHalted (s : State) (v : Bool) : (s.setHalted v).cpu.sp = s.cpu.sp := rfl
@[simp] theorem cpu_pc_setHalted (s : State) (v : Bool) : (s.setHalted v).cpu.pc = s.cpu.pc := rfl
@[simp] theorem cpu_ime_setHalted (s : State) (v : Bool) : (s.setHalted v).cpu.ime = s.cpu.ime := rfl
@[simp] theorem cpu_pending_setHalted (s : State) (v : Bool) : (s.setHalted v).cpu.pending = s.cpu.pending := rfl
@[simp] theorem cpu_doubleSpeed_setHalted (s : State) (v : Bool) : (s.setHalted v).cpu.doubleSpeed = s.cpu.doubleSpeed := rfl
@[simp] theorem cpu_key1Armed_setHalted (s : State) (v : Bool) : (s.setHalted v).cpu.key1Armed = s.cpu.key1Armed := rfl

@[simp] theorem model_setCost (s : State) (n : Nat) : (s.setCost n).model = s.model := rfl
@[simp] theorem cart_setCost (s : State) (n : Nat) : (s.setCost n).cart = s.cart := rfl
@[simp] theorem cpu_setCost (s : State) (n : Nat) : (s.setCost n).cpu = s.cpu := rfl
@[simp] theorem irq_setCost (s : State) (n : Nat) : (s.setCost n).irq = s.irq := rfl
@[simp] theorem mem_setCost (s : State) (n : Nat) : (s.setCost n).mem = s.mem := rfl
@[simp] theorem mbc_setCost (s : State) (n : Nat) : (s.setCost n).mbc = s.mbc := rfl
@[simp] theorem hdma_setCost (s : State) (n : Nat) : (s.setCost n).hdma = s.hdma := rfl
@[simp] theorem timer_setCost (s : State) (n : Nat) : (s.setCost n).timer = s.timer := rfl
@[simp] theorem ppu_setCost (s : State) (n : Nat) : (s.setCost n).ppu = s.ppu := rfl
@[simp] theorem sound_setCost (s : State) (n : Nat) : (s.setCost n).sound = s.sound := rfl
@[simp] theorem keypad_setCost (s : State) (n : Nat) : (s.setCost n).keypad = s.keypad := rfl
@[simp] theorem serial_setCost (s : State) (n : Nat) : (s.setCost n).serial = s.serial := rfl
@[simp] theorem host_setCost (s : State) (n : Nat) : (s.setCost n).host = s.host := rfl
@[simp] theorem extra_setCost (s : State) (n : Nat) : (s.setCost n).extra = s.extra := rfl
@[simp] theorem fault_setCost (s : State) (n : Nat) : (s.setCost n).fault = s.fault := rfl

@[simp] theorem model_defer (s : State) (x : Effect) : (s.defer x).model = s.model := rfl
@[simp] theorem cart_defer (s : State) (x : Effect) : (s.defer x).cart = s.cart := rfl
@[simp] theorem irq_defer (s : State) (x : Effect) : (s.defer x).irq = s.irq := rfl
@[simp] theorem mem_defer (s : State) (x : Effect) : (s.defer x).mem = s.mem := rfl
@[simp] theorem mbc_defer (s : State) (x : Effect) : (s.defer x).mbc = s.mbc := rfl
@[simp] theorem hdma_defer (s : State) (x : Effect) : (s.defer x).hdma = s.hdma := rfl
@[simp] theorem timer_defer (s : State) (x : Effect) : (s.defer x).timer = s.timer := rfl
@[simp] theorem ppu_defer (s : State) (x : Effect) : (s.defer x).ppu = s.ppu := rfl
@[simp] theorem sound_defer (s : State) (x : Effect) : (s.defer x).sound = s.sound := rfl
@[simp] theorem keypad_defer (s : State) (x : Effect) : (s.defer x).keypad = s.keypad := rfl
@[simp] theorem serial_defer (s : State) (x : Effect) : (s.defer x).serial = s.serial := rfl
@[simp] theorem host_defer (s : State) (x : Effect) : (s.defer x).host = s.host := rfl
@[simp] theorem cost_defer (s : State) (x : Effect) : (s.defer x).cost = s.cost := rfl
@[simp] theorem extra_defer (s : State) (x : Effect) : (s.defer x).extra = s.extra := rfl
@[simp] theorem fault_defer (s : State) (x : Effect) : (s.defer x).fault = s.fault := rfl
@[simp] theorem cpu_a_defer (s : State) (x : Effect) : (s.defer x).cpu.a = s.cpu.a := rfl
@[simp] theorem cpu_f_defer (s : State) (x : Effect) : (s.defer x).cpu.f = s.cpu.f := rfl
@[simp] theorem cpu_b_defer (s : State) (x : Effect) : (s.defer x).cpu.b = s.cpu.b := rfl
@[simp] theorem cpu_c_defer (s : State) (x : Effect) : (s.defer x).cpu.c = s.cpu.c := rfl
@[simp] theorem cpu_d_defer (s : State) (x : Effect) : (s.defer x).cpu.d = s.cpu.d := rfl
@[simp] theorem cpu_e_defer (s : State) (x : Effect) : (s.defer x).cpu.e = s.cpu.e := rfl
@[simp] theorem cpu_h_defer (s : State) (x : Effect) : (s.defer x).cpu.h = s.cpu.h := rfl
@[simp] theorem cpu_l_defer (s : State) (x : Effect) : (s.defer x).cpu.l = s.cpu.l := rfl
@[simp] theorem cpu_sp_defer (s : State) (x : Effect) : (s.defer x).cpu.sp = s.cpu.sp := rfl
@[simp] theorem cpu_pc_defer (s : State) (x : Effect) : (s.defer x).cpu.pc = s.cpu.pc := rfl
@[simp] theorem cpu_ime_defer (s : State) (x : Effect) : (s.defer x).cpu.ime = s.cpu.ime := rfl
@[simp] theorem cpu_halted_defer (s : State) (x : Effect) : (s.defer x).cpu.halted = s.cpu.halted := rfl
@[simp] theorem cpu_doubleSpeed_defer (s : State) (x : Effect) : (s.defer x).cpu.doubleSpeed = s.cpu.doubleSpeed := rfl
@[simp] theorem cpu_key1Armed_defer (s : State) (x : Effect) : (s.defer x).cpu.key1Armed = s.cpu.key1Armed := rfl

@[simp] theorem model_request (s : State) (n : Nat) : (s.request n).model = s.model := rfl
@[simp] theorem cart_request (s : State) (n : Nat) : (s.request n).cart = s.cart := rfl
@[simp] theorem cpu_request (s : State) (n : Nat) : (s.request n).cpu = s.cpu := rfl
@[simp] theorem mem_request (s : State) (n : Nat) : (s.request n).mem = s.mem := rfl
@[simp] theorem mbc_request (s : State) (n : Nat) : (s.request n).mbc = s.mbc := rfl
@[simp] theorem hdma_request (s : State) (n : Nat) : (s.request n).hdma = s.hdma := rfl
@[simp] theorem timer_request (s : State) (n : Nat) : (s.request n).timer = s.timer := rfl
@[simp] theorem ppu_request (s : State) (n : Nat) : (s.request n).ppu = s.ppu := rfl
@[simp] theorem sound_request (s : State) (n : Nat) : (s.request n).sound = s.sound := rfl
@[simp] theorem keypad_request (s : State) (n : Nat) : (s.request n).keypad = s.keypad := rfl
@[simp] theorem serial_request (s : State) (n : Nat) : (s.request n).serial = s.serial := rfl
@[simp] theorem host_request (s : State) (n : Nat) : (s.request n).host = s.host := rfl
@[simp] theorem cost_request (s : State) (n : Nat) : (s.request n).cost = s.cost := rfl
@[simp] theorem extra_request (s : State) (n : Nat) : (s.request n).extra = s.extra := rfl
@[simp] theorem fault_request (s : State) (n : Nat) : (s.request n).fault = s.fault := rfl

@[simp] theorem model_send (s : State) (m : HostMessage) : (s.send m).model = s.model := rfl
@[simp] theorem cart_send (s : State) (m : HostMessage) : (s.send m).cart = s.cart := rfl
@[simp] theorem cpu_send (s : State) (m : HostMessage) : (s.send m).cpu = s.cpu := rfl
@[simp] theorem irq_send (s : State) (m : HostMessage) : (s.send m).irq = s.irq := rfl
@[simp] theorem mem_send (s : State) (m : HostMessage) : (s.send m).mem = s.mem := rfl
@[simp] theorem mbc_send (s : State) (m : HostMessage) : (s.send m).mbc = s.mbc := rfl
@[simp] theorem hdma_send (s : State) (m : HostMessage) : (s.send m).hdma = s.hdma := rfl
@[simp] theorem timer_send (s : State) (m : HostMessage) : (s.send m).timer = s.timer := rfl
@[simp] theorem ppu_send (s : State) (m : HostMessage) : (s.send m).ppu = s.ppu := rfl
@[simp] theorem sound_send (s : State) (m : HostMessage) : (s.send m).sound = s.sound := rfl
@[simp] theorem keypad_send (s : State) (m : HostMessage) : (s.send m).keypad = s.keypad := rfl
@[simp] theorem serial_send (s : State) (m : HostMessage) : (s.send m).serial = s.serial := rfl
@[simp] theorem cost_send (s : State) (m : HostMessage) : (s.send m).cost = s.cost := rfl
@[simp] theorem extra_send (s : State) (m : HostMessage) : (s.send m).extra = s.extra := rfl
@[simp] theorem fault_send (s : State) (m : HostMessage) : (s.send m).fault = s.fault := rfl

@[simp] theorem model_setMbc (s : State) (m : Mbc) : (s.setMbc m).model = s.model := rfl
@[simp] theorem cart_setMbc (s : State) (m : Mbc) : (s.setMbc m).cart = s.cart := rfl
@[simp] theorem cpu_setMbc (s : State) (m : Mbc) : (s.setMbc m).cpu = s.cpu := rfl
@[simp] theorem irq_setMbc (s : State) (m : Mbc) : (s.setMbc m).irq = s.irq := rfl
@[simp] theorem mem_setMbc (s : State) (m : Mbc) : (s.setMbc m).mem = s.mem := rfl
@[simp] theorem hdma_setMbc (s : State) (m : Mbc) : (s.setMbc m).hdma = s.hdma := rfl
@[simp] theorem timer_setMbc (s : State) (m : Mbc) : (s.setMbc m).timer = s.timer := rfl
@[simp] theorem ppu_setMbc (s : State) (m : Mbc) : (s.setMbc m).ppu = s.ppu := rfl
@[simp] theorem sound_setMbc (s : State) (m : Mbc) : (s.setMbc m).sound = s.sound := rfl
@[simp] theorem keypad_setMbc (s : State) (m : Mbc) : (s.setMbc m).keypad = s.keypad := rfl
@[simp] theorem serial_setMbc (s : State) (m : Mbc) : (s.setMbc m).serial = s.serial := rfl
@[simp] theorem host_setMbc (s : State) (m : Mbc) : (s.setMbc m).host = s.host := rfl
@[simp] theorem cost_setMbc (s : State) (m : Mbc) : (s.setMbc m).cost = s.cost := rfl
@[simp] theorem extra_setMbc (s : State) (m : Mbc) : (s.setMbc m).extra = s.extra := rfl
@[simp] theorem fault_setMbc (s : State) (m : Mbc) : (s.setMbc m).fault = s.fault := rfl

@[simp] theorem model_setMode (s : State) (m : PpuMode) : (s.setMode m).model = s.model := rfl
@[simp] theorem cart_setMode (s : State) (m : PpuMode) : (s.setMode m).cart = s.cart := rfl
@[simp] theorem cpu_setMode (s : State) (m : PpuMode) : (s.setMode m).cpu = s.cpu := rfl
@[simp] theorem irq_setMode (s : State) (m : PpuMode) : (s.setMode m).irq = s.irq := rfl
@[simp] theorem mem_setMode (s : State) (m : PpuMode) : (s.setMode m).mem = s.mem := rfl
@[simp] theorem mbc_setMode (s : State) (m : PpuMode) : (s.setMode m).mbc = s.mbc := rfl
@[simp] theorem hdma_setMode (s : State) (m : PpuMode) : (s.setMode m).hdma = s.hdma := rfl
@[simp] theorem timer_setMode (s : State) (m : PpuMode) : (s.setMode m).timer = s.timer := rfl
@[simp] theorem sound_setMode (s : State) (m : PpuMode) : (s.setMode m).sound = s.sound := rfl
@[simp] theorem keypad_setMode (s : State) (m : PpuMode) : (s.setMode m).keypad = s.keypad := rfl
@[simp] theorem serial_setMode (s : State) (m : PpuMode) : (s.setMode m).serial = s.serial := rfl
@[simp] theorem host_setMode (s : State) (m : PpuMode) : (s.setMode m).host = s.host := rfl
@[simp] theorem cost_setMode (s : State) (m : PpuMode) : (s.setMode m).cost = s.cost := rfl
@[simp] theorem extra_setMode (s : State) (m : PpuMode) : (s.setMode m).extra = s.extra := rfl
@[simp] theorem fault_setMode (s : State) (m : PpuMode) : (s.setMode m).fault = s.fault := rfl

@[simp] theorem pc_setPc (s : State) (v : Word) : (s.setPc v).cpu.pc = v := rfl
@[simp] theorem sp_setSp (s : State) (v : Word) : (s.setSp v).cpu.sp = v := rfl
@[simp] theorem ime_setIme (s : State) (v : Bool) : (s.setIme v).cpu.ime = v := rfl
@[simp] theorem halted_setHalted (s : State) (v : Bool) : (s.setHalted v).cpu.halted = v := rfl
@[simp] theorem cost_setCost_same (s : State) (n : Nat) : (s.setCost n).cost = n := rfl
@[simp] theorem mbc_setMbc_same (s : State) (m : Mbc) : (s.setMbc m).mbc = m := rfl
@[simp] theorem f_setFlags (s : State) (z n h c : Bool) : (s.setFlags z n h c).cpu.f = flagByte z n h c := rfl
@[simp] theorem f_putFlags (s : State) (x : FlagSet) : (s.putFlags x).cpu.f = flagByte x.z x.n x.h x.c := rfl
@[simp] theorem pending_defer (s : State) (x : Effect) :
    (s.defer x).cpu.pending = s.cpu.pending ++ [{ effect := x, remaining := 2 }] := rfl
@[simp] theorem ieByte_request (s : State) (n : Nat) : (s.request n).irq.ieByte = s.irq.ieByte := rfl
@[simp] theorem ifByte_request (s : State) (n : Nat) : (s.request n).irq.ifByte = setBitOf s.irq.ifByte n := rfl

/-- A general register after a write to one. -/
theorem reg_setReg (s : State) (p r : Reg) (v : Byte) : (s.setReg p v).reg r = if r = p then v else s.reg r := by
  cases p <;> cases r <;> rfl

@[simp] theorem reg_setReg_same (s : State) (r : Reg) (v : Byte) : (s.setReg r v).reg r = v := by cases r <;> rfl

@[simp] theorem hiByte_pairOf (h l : Byte) : hiByte (pairOf h l) = h := by
  unfold hiByte pairOf
  ext i hi
  rw [BitVec.getElem_extractLsb', BitVec.getLsbD_append]
  simp [show ¬ 8 + i < 8 by omega, hi]

@[simp] theorem loByte_pairOf (h l : Byte) : loByte (pairOf h l) = l := by
  unfold loByte pairOf
  ext i hi
  rw [BitVec.getElem_extractLsb', BitVec.getLsbD_append]
  simp [hi]

@[simp] theorem pairOf_hiByte_loByte (v : Word) : pairOf (hiByte v) (loByte v) = v := by
  unfold hiByte loByte pairOf
  ext i hi
  rw [BitVec.getElem_append]
  split
  · simp
    rfl
  · simp [show 8 + (i - 8) = i by omega]
    rfl

@[simp] theorem r16_setR16 (s : State) (r : R16) (v : Word) : (s.setR16 r v).r16 r = v := by
  cases r <;> simp [State.r16, State.setR16, State.bc, State.de, State.hl]

/-- The flags that a flag byte holds. -/
theorem zf_flagByte (z n h c : Bool) : (flagByte z n h c).getLsbD 7 = z := by
  cases z <;> cases n <;> cases h <;> cases c <;> rfl
theorem nf_flagByte (z n h c : Bool) : (flagByte z n h c).getLsbD 6 = n := by
  cases z <;> cases n <;> cases h <;> cases c <;> rfl
theorem hf_flagByte (z n h c : Bool) : (flagByte z n h c).getLsbD 5 = h := by
  cases z <;> cases n <;> cases h <;> cases c <;> rfl
theorem cf_flagByte (z n h c : Bool) : (flagByte z n h c).getLsbD 4 = c := by
  cases z <;> cases n <;> cases h <;> cases c <;> rfl

/-- The low nibble of a flag byte is 0 (10_state.md R36). -/
@[simp] theorem flagByte_low (z n h c : Bool) : flagByte z n h c &&& 0x0F = 0 := by
  cases z <;> cases n <;> cases h <;> cases c <;> rfl

@[simp] theorem zf_setFlags (s : State) (z n h c : Bool) : (s.setFlags z n h c).zf = z := by
  rw [State.zf, f_setFlags, zf_flagByte]
@[simp] theorem nf_setFlags (s : State) (z n h c : Bool) : (s.setFlags z n h c).nf = n := by
  rw [State.nf, f_setFlags, nf_flagByte]
@[simp] theorem hf_setFlags (s : State) (z n h c : Bool) : (s.setFlags z n h c).hf = h := by
  rw [State.hf, f_setFlags, hf_flagByte]
@[simp] theorem cf_setFlags (s : State) (z n h c : Bool) : (s.setFlags z n h c).cf = c := by
  rw [State.cf, f_setFlags, cf_flagByte]

end Sys2Proof.Machine
end

