-- ==== Sys2Proof/Laws/Access.lean ====
section
/-! SUPPORT. What reads, writes, pushes and pops can do. -/

namespace Sys2Proof.Machine

/-! ### Reads -/

/-- A read of a mapped cartridge's machine goes on. -/
theorem memRead_mapped {s : State} (h : Mapped s) (a : Word) : memRead s a = .next (readByte s a) := by
  have : romRefused s a = false := by
    unfold romRefused
    by_cases hm : s.cart.mbc = .mmm01
    · simp [h hm]
    · simp [hm]
  simp [memRead, this]

theorem memRead_eq_next {s : State} {a : Word} {v : Byte} (h : memRead s a = .next v) : v = readByte s a := by
  unfold memRead at h
  split at h
  · simp at h
  · simpa using h.symm

/-- States that agree outside the CPU. -/
theorem SameOutside.eq {s t : State} (h : SameOutside s t) : t = { s with cpu := t.cpu, cost := t.cost } := by
  obtain ⟨h1, h2, h3, h4, h5, h6, h7, h8, h9, h10, h11, h12, h13, h14⟩ := h
  cases s; cases t; dsimp only at *; subst_vars; rfl

theorem ioRegRead_cpu (s : State) (c : Cpu) (n : Nat) (hd : c.doubleSpeed = s.cpu.doubleSpeed)
    (hk : c.key1Armed = s.cpu.key1Armed) (r : IoReg) :
    ioRegRead { s with cpu := c, cost := n } r = ioRegRead s r := by
  cases r <;> first | rfl | simp [ioRegRead, hd, hk]

/-- The byte an address reads as depends on nothing but what lies outside the CPU and on KEY1's two bits. -/
theorem readByte_same {s t : State} (h : SameOutside s t) (hd : t.cpu.doubleSpeed = s.cpu.doubleSpeed)
    (hk : t.cpu.key1Armed = s.cpu.key1Armed) (a : Word) : readByte t a = readByte s a := by
  rw [h.eq]
  generalize t.cpu = c, t.cost = n at *
  have hloc : locOf { s with cpu := c, cost := n } a = locOf s a := rfl
  unfold readByte
  rw [hloc]
  cases locOf s a <;> try rfl
  simp only [locRead, ioRead]
  cases ioSlot _ <;> try rfl
  simp only [ioRegRead_cpu s c n hd hk]
  rfl
/-! ### Copies -/

theorem oamCopy_eq {src : Word} {n i : Nat} {s t : State} (h : oamCopy src n i s = .next t) :
    ∃ m, t = { s with mem := { s.mem with oam := m } } := by
  induction n generalizing i s with
  | zero => exact ⟨s.mem.oam, by simpa [oamCopy] using h.symm⟩
  | succ n ih =>
    obtain ⟨v, -, hv⟩ := andThen_eq_next.1 h
    obtain ⟨m, rfl⟩ := ih hv
    exact ⟨m, rfl⟩

theorem oamCopy_completes (src : Word) (n i : Nat) {s : State} (h : Mapped s) : ∃ t, oamCopy src n i s = .next t := by
  induction n generalizing i s with
  | zero => exact ⟨s, rfl⟩
  | succ n ih =>
    simp only [oamCopy, memRead_mapped h, andThen_next]
    exact ih _ h

theorem hdmaBytes_eq {n j : Nat} {s t : State} (h : hdmaBytes n j s = .next t) :
    ∃ m, t = { s with mem := { s.mem with vram := m } } := by
  induction n generalizing j s with
  | zero => exact ⟨s.mem.vram, by simpa [hdmaBytes] using h.symm⟩
  | succ n ih =>
    obtain ⟨v, -, hv⟩ := andThen_eq_next.1 h
    obtain ⟨m, rfl⟩ := ih hv
    exact ⟨m, rfl⟩

theorem hdmaBytes_completes (n j : Nat) {s : State} (h : Mapped s) : ∃ t, hdmaBytes n j s = .next t := by
  induction n generalizing j s with
  | zero => exact ⟨s, rfl⟩
  | succ n ih =>
    simp only [hdmaBytes, memRead_mapped h, andThen_next]
    exact ih _ h

/-- One block moves the two addresses on by 16, and writes VRAM only. -/
theorem hdmaBlock_eq {s t : State} (h : hdmaBlock s = .next t) :
    ∃ m, t = { s with
      mem := { s.mem with vram := m }
      hdma := { s.hdma with src := s.hdma.src + 16, dst := (s.hdma.dst + 16) &&& 0x1FFF } } := by
  obtain ⟨u, hu, hv⟩ := andThen_eq_next.1 h
  obtain ⟨m, rfl⟩ := hdmaBytes_eq hu
  exact ⟨m, by simpa using hv.symm⟩

theorem hdmaBlock_completes {s : State} (h : Mapped s) : ∃ t, hdmaBlock s = .next t := by
  obtain ⟨u, hu⟩ := hdmaBytes_completes 16 0 h
  simp only [hdmaBlock, hu, andThen_next]
  exact ⟨_, rfl⟩

theorem hdmaBlocks_eq {n : Nat} {s t : State} (h : hdmaBlocks n s = .next t) :
    ∃ m a b, t = { s with mem := { s.mem with vram := m }, hdma := { s.hdma with src := a, dst := b } } := by
  induction n generalizing s with
  | zero => exact ⟨s.mem.vram, s.hdma.src, s.hdma.dst, by simpa [hdmaBlocks] using h.symm⟩
  | succ n ih =>
    obtain ⟨u, hu, hv⟩ := andThen_eq_next.1 h
    obtain ⟨m, rfl⟩ := hdmaBlock_eq hu
    obtain ⟨m', a, b, rfl⟩ := ih hv
    exact ⟨m', a, b, rfl⟩

theorem hdmaBlocks_completes (n : Nat) {s : State} (h : Mapped s) : ∃ t, hdmaBlocks n s = .next t := by
  induction n generalizing s with
  | zero => exact ⟨s, rfl⟩
  | succ n ih =>
    obtain ⟨u, hu⟩ := hdmaBlock_completes h
    obtain ⟨m, rfl⟩ := hdmaBlock_eq hu
    obtain ⟨t, ht⟩ := ih (s := { s with
      mem := { s.mem with vram := m }
      hdma := { s.hdma with src := s.hdma.src + 16, dst := (s.hdma.dst + 16) &&& 0x1FFF } }) h
    exact ⟨t, by simp only [hdmaBlocks, hu, andThen_next, ht]⟩

/-- What a write to HDMA5 can change. -/
theorem hdma5Write_eq {v : Byte} {s t : State} (h : hdma5Write v s = .next t) :
    ∃ m d e, t = { s with mem := { s.mem with vram := m }, hdma := d, extra := e } := by
  unfold hdma5Write at h
  split at h
  · exact ⟨s.mem.vram, _, s.extra, by simpa using h.symm⟩
  · split at h
    · obtain ⟨u, hu, hv⟩ := andThen_eq_next.1 h
      obtain ⟨m, a, b, rfl⟩ := hdmaBlocks_eq hu
      exact ⟨m, _, _, by simpa using hv.symm⟩
    · exact ⟨s.mem.vram, _, s.extra, by simpa using h.symm⟩

theorem hdma5Write_completes (v : Byte) {s : State} (h : Mapped s) : ∃ t, hdma5Write v s = .next t := by
  unfold hdma5Write
  split
  · exact ⟨_, rfl⟩
  · split
    · obtain ⟨u, hu⟩ := hdmaBlocks_completes (field v 0 7 + 1) h
      simp only [hu, andThen_next]
      exact ⟨_, rfl⟩
    · exact ⟨_, rfl⟩

/-! ### Writes -/

/-- What no memory access changes: the parameters, ROM, the CPU but for KEY1's armed bit (which moves on CGB only),
the cost and the outcome marker. -/
structure WriteFrame (s t : State) : Prop where
  model : t.model = s.model
  cart : t.cart = s.cart
  rom : t.mem.rom = s.mem.rom
  cpu : t.cpu = { s.cpu with key1Armed := t.cpu.key1Armed }
  armed : s.cgb = false → t.cpu.key1Armed = s.cpu.key1Armed
  cost : t.cost = s.cost
  fault : t.fault = s.fault

theorem WriteFrame.refl (s : State) : WriteFrame s s := ⟨rfl, rfl, rfl, rfl, fun _ => rfl, rfl, rfl⟩

theorem WriteFrame.of_eq {s t : State} (hm : t.model = s.model) (hc : t.cart = s.cart) (hr : t.mem.rom = s.mem.rom)
    (hp : t.cpu = s.cpu) (hk : t.cost = s.cost) (hf : t.fault = s.fault) : WriteFrame s t :=
  ⟨hm, hc, hr, by rw [hp], fun _ => by rw [hp], hk, hf⟩

theorem WriteFrame.trans {s t u : State} (h : WriteFrame s t) (k : WriteFrame t u) : WriteFrame s u := by
  refine ⟨k.model.trans h.model, k.cart.trans h.cart, k.rom.trans h.rom, ?_, fun hc => ?_, k.cost.trans h.cost,
    k.fault.trans h.fault⟩
  · rw [k.cpu, h.cpu]
  · have hc' : t.cgb = false := by simpa [State.cgb, h.model] using hc
    exact (k.armed hc').trans (h.armed hc)

/-- `checkLyc` sets the coincidence bit, and may request an interrupt. -/
theorem checkLyc_eq (s : State) : ∃ q, checkLyc s =
    { s with ppu := { s.ppu with lycEqual := decide (s.ppu.ly = s.ppu.lyc.toNat) }
             irq := { s.irq with ifByte := q } } := by
  unfold checkLyc
  dsimp only
  split <;> exact ⟨_, rfl⟩

theorem statRequest_eq (n : Nat) (s : State) : ∃ q, statRequest n s = { s with irq := { s.irq with ifByte := q } } := by
  unfold statRequest
  split <;> exact ⟨_, rfl⟩

/-- The three outcomes of a write to LCDC: the PPU switched off, switched on, or neither. -/
theorem lcdcWrite_eq (v : Byte) (s : State) : ∃ q,
    (s.ppu.lcdOn = true ∧ v.getLsbD 7 = false ∧ lcdcWrite v s =
      { s with irq := { s.irq with ifByte := q }
               ppu := { s.ppu with lcdc := v, ly := 0, lineDot := 0, mode := .hblank, frame := brightFrame s.model
                                   lycEqual := decide (0 = s.ppu.lyc.toNat) } }) ∨
    (s.ppu.lcdOn = false ∧ v.getLsbD 7 = true ∧ lcdcWrite v s =
      { s with irq := { s.irq with ifByte := q }
               ppu := { s.ppu with lcdc := v, ly := 0, lineDot := 0, mode := .oamScan
                                   lycEqual := decide (0 = s.ppu.lyc.toNat) } }) ∨
    (s.ppu.lcdOn = v.getLsbD 7 ∧ lcdcWrite v s = { s with ppu := { s.ppu with lcdc := v } }) := by
  unfold lcdcWrite
  dsimp only
  cases h1 : s.ppu.lcdOn <;> cases h2 : v.getLsbD 7
  · exact ⟨0, .inr (.inr ⟨rfl, rfl⟩)⟩
  · obtain ⟨q, hq⟩ := checkLyc_eq (restartPpu { s with ppu := { s.ppu with lcdc := v } })
    obtain ⟨q', hq'⟩ := statRequest_eq 2 ((checkLyc (restartPpu { s with ppu := { s.ppu with lcdc := v } })).setMode .oamScan)
    refine ⟨q', .inr (.inl ⟨rfl, rfl, ?_⟩)⟩
    simp only [enterOamScan, hq', Bool.not_false, Bool.not_true, Bool.and_false, Bool.and_true, if_true]
    rw [hq]
    rfl
  · obtain ⟨q, hq⟩ := checkLyc_eq ((restartPpu { s with ppu := { s.ppu with lcdc := v } }).setMode .hblank)
    refine ⟨q, .inl ⟨rfl, rfl, ?_⟩⟩
    simp only [hq, Bool.not_false, Bool.and_true, if_true]
    rfl
  · exact ⟨0, .inr (.inr ⟨rfl, rfl⟩)⟩

theorem lcdcWrite_frame (v : Byte) (s : State) : WriteFrame s (lcdcWrite v s) := by
  obtain ⟨q, ⟨-, -, h⟩ | ⟨-, -, h⟩ | ⟨-, h⟩⟩ := lcdcWrite_eq v s <;> rw [h] <;> exact .of_eq rfl rfl rfl rfl rfl rfl

theorem soundWrite_frame (f : Sound → Sound) (s : State) : WriteFrame s (soundWrite f s) := by
  unfold soundWrite
  split <;> exact .of_eq rfl rfl rfl rfl rfl rfl

theorem ioRegWrite_frame {r : IoReg} {v : Byte} {s t : State} (hr : r = .key1 → s.cgb = true)
    (h : ioRegWrite r v s = .next t) : WriteFrame s t := by
  cases r
  case lcdc => cases h; exact lcdcWrite_frame v s
  case lyc =>
    cases h
    obtain ⟨q, hq⟩ := checkLyc_eq { s with ppu := { s.ppu with lyc := v } }
    rw [hq]
    exact .of_eq rfl rfl rfl rfl rfl rfl
  case dma =>
    obtain ⟨m, rfl⟩ := oamCopy_eq h
    exact .of_eq rfl rfl rfl rfl rfl rfl
  case hdma5 =>
    obtain ⟨m, d, e, rfl⟩ := hdma5Write_eq h
    exact .of_eq rfl rfl rfl rfl rfl rfl
  case key1 => cases h; exact ⟨rfl, rfl, rfl, rfl, fun hc => by simp [hr rfl] at hc, rfl, rfl⟩
  all_goals first
    | (cases h; exact soundWrite_frame _ _)
    | (cases h; exact .of_eq rfl rfl rfl rfl rfl rfl)

theorem ioWrite_frame {a v : Byte} {s t : State} (h : ioWrite a v s = .next t) : WriteFrame s t := by
  unfold ioWrite at h
  split at h
  · cases h; exact .of_eq rfl rfl rfl rfl rfl rfl
  · simp at h
  · rename_i r _
    split at h
    · split at h
      · exact ioRegWrite_frame (fun _ => ‹_›) h
      · cases h; exact .of_eq rfl rfl rfl rfl rfl rfl
    · refine ioRegWrite_frame (fun hr => ?_) h
      subst hr
      simp_all [IoReg.storedOnDmg]

theorem mbcWrite_frame (a : Word) (v : Byte) (s : State) : WriteFrame s (mbcWrite a v s) := by
  unfold mbcWrite
  split
  case h_4 =>
    unfold mbc3Write
    dsimp only
    split_ifs <;> exact .of_eq rfl rfl rfl rfl rfl rfl
  case h_5 =>
    unfold mbc5Write mbc5Bank
    dsimp only
    split_ifs <;> exact .of_eq rfl rfl rfl rfl rfl rfl
  all_goals exact .of_eq rfl rfl rfl rfl rfl rfl

theorem storeLoc_frame {l : Loc} {v : Byte} {s t : State} (h : storeLoc l v s = .next t) : WriteFrame s t := by
  cases l
  case io a => exact ioWrite_frame h
  all_goals (cases h; exact .of_eq rfl rfl rfl rfl rfl rfl)

/-- What a write to an address never changes. -/
theorem memWrite_frame {s t : State} {a : Word} {v : Byte} (h : memWrite s a v = .next t) : WriteFrame s t := by
  unfold memWrite at h
  split at h
  · split at h
    · simp at h
    · cases h; exact mbcWrite_frame a v s
  · split at h
    · cases h; exact .refl s
    · exact storeLoc_frame h

theorem WriteFrame.mapped {s t : State} (h : WriteFrame s t) (hm : Mapped s) : Mapped t := by
  unfold Mapped; rw [h.cart]; exact hm

theorem ioRegWrite_completes (r : IoReg) (v : Byte) {s : State} (h : Mapped s) : ∃ t, ioRegWrite r v s = .next t := by
  cases r
  case dma => exact oamCopy_completes _ _ _ h
  case hdma5 => exact hdma5Write_completes v h
  all_goals exact ⟨_, rfl⟩

theorem wramLoc_ne_io (s : State) (n : Nat) (b : Byte) : wramLoc s n ≠ .io b := by
  unfold wramLoc
  split <;> exact nofun

theorem extLoc_ne_io (s : State) (n : Nat) (b : Byte) : extLoc s n ≠ .io b := by
  unfold extLoc eramLoc
  repeat' split
  all_goals exact nofun

theorem locOf_io {s : State} {a : Word} {b : Byte} (h : locOf s a = .io b) :
    0xFF00 ≤ a.toNat ∧ a.toNat ≤ 0xFF7F ∧ b = loByte a := by
  simp only [locOf] at h
  split_ifs at h <;> simp only [wramLoc_ne_io, extLoc_ne_io, Loc.io.injEq] at h
  exact ⟨by omega, by omega, h.symm⟩

/-- A write completes at every address but an unimplemented I/O one. -/
theorem memWrite_completes {s : State} (h : Mapped s) {a : Word} (ha : ¬ Unimplemented a) (v : Byte) :
    ∃ t, memWrite s a v = .next t := by
  unfold memWrite
  split
  · have : romRefused s a = false := by
      unfold romRefused
      by_cases hm : s.cart.mbc = .mmm01
      · simp [h hm]
      · simp [hm]
    exact ⟨_, by simp [this]; rfl⟩
  · split
    · exact ⟨_, rfl⟩
    · cases hl : locOf s a
      case io b =>
        obtain ⟨h1, h2, rfl⟩ := locOf_io hl
        unfold storeLoc ioWrite
        dsimp only
        split
        · exact ⟨_, rfl⟩
        · exact absurd ⟨h1, h2, ‹_›⟩ ha
        · split
          · split
            · exact ioRegWrite_completes _ _ h
            · exact ⟨_, rfl⟩
          · exact ioRegWrite_completes _ _ h
      all_goals exact ⟨_, rfl⟩

/-- Every address of the I/O page lies in it. -/
theorem locOf_ioPage (s : State) {a : Word} (h1 : 0xFF00 ≤ a.toNat) (h2 : a.toNat ≤ 0xFF7F) :
    locOf s a = .io (loByte a) := by
  simp only [locOf]
  split_ifs <;> first | omega | rfl

/-- A write to an unimplemented I/O address is the fault that names it. -/
theorem memWrite_unimplemented (s : State) {a : Word} (ha : Unimplemented a) (v : Byte) :
    memWrite s a v = stopWith (.unimplementedIOWrite a) s := by
  obtain ⟨h1, h2, h3⟩ := ha
  have hun : unusable a = false := by simp [unusable]; omega
  have hpage : highPage (loByte a) = a := by
    apply BitVec.eq_of_toNat_eq
    simp only [highPage, loByte, zext16, BitVec.toNat_add, BitVec.toNat_setWidth, BitVec.truncate_eq_setWidth,
      BitVec.extractLsb'_toNat, BitVec.toNat_ofNat]
    omega
  unfold memWrite
  rw [if_neg (by omega), hun, locOf_ioPage s h1 h2]
  simp [storeLoc, ioWrite, h3, hpage]

end Sys2Proof.Machine
end

