-- ==== Sys2Proof/Laws/Keeps.lean ====
section
/-! SUPPORT. Every memory operation keeps the canonical form of the memories and their sizes, the position of the
PPU, and the ranges of the controllers and devices. -/

namespace Sys2Proof.Machine

theorem Memory.sized_write {m : Memory} {n : Nat} (h : m.sized n) {a : Nat} (ha : a < n) (v : Byte) :
    (m.write a v).sized n :=
  ⟨Memory.wf_write h.1 a v, fun c hc => by rcases Memory.mem_write hc with rfl | hc; exacts [ha, h.2 c hc]⟩

theorem MemInv.of_eq {s t : State} (h : MemInv s) (hm : t.mem = s.mem) (hc : t.cart = s.cart)
    (hw : t.sound.waveRam = s.sound.waveRam) (hb : t.ppu.bgPalette = s.ppu.bgPalette)
    (ho : t.ppu.objPalette = s.ppu.objPalette) : MemInv t := by
  constructor <;> simp only [hm, hc, hw, hb, ho]
  exacts [h.rom, h.vram, h.eram, h.mbc2ram, h.wram, h.oam, h.hram, h.io, h.waveRam, h.bgPalette, h.objPalette]

theorem PpuInv.of_eq {s t : State} (h : PpuInv s) (hp : t.ppu = s.ppu) : PpuInv t := by
  constructor <;> simp only [hp]
  exacts [h.line, h.dot, h.modeOn, h.modeOff, h.coincidence, h.lines, h.columns]

theorem DeviceInv.of_eq {s t : State} (h : DeviceInv s) (hm : t.model = s.model) (hb : t.mbc.wramBank = s.mbc.wramBank)
    (hl : t.mbc.mbc1Low5 = s.mbc.mbc1Low5) (hd : t.hdma = s.hdma) (hs : t.serial = s.serial)
    (hu : t.sound = s.sound) : DeviceInv t := by
  constructor <;> simp only [hm, hb, hl, hd, hs, hu]
  exacts [h.wramBank, h.mbc1Low5, h.hdmaLeft, h.hdmaOnDmg, h.serialBusy, h.waveTable, h.sampleAcc]

/-- The part of the invariant that lies outside the CPU and the timer. -/
structure BodyInv (s : State) : Prop where
  mem : MemInv s
  ppu : PpuInv s
  device : DeviceInv s

/-- It does not look at the CPU, the timer, the interrupt bytes, the keypad, the host or the counts. -/
theorem BodyInv.of_eq {s t : State} (h : BodyInv s) (hm : t.model = s.model) (hc : t.cart = s.cart)
    (hr : t.mem = s.mem) (hb : t.mbc.wramBank = s.mbc.wramBank) (hl : t.mbc.mbc1Low5 = s.mbc.mbc1Low5)
    (hd : t.hdma = s.hdma) (hp : t.ppu = s.ppu) (hu : t.sound = s.sound) (hs : t.serial = s.serial) : BodyInv t :=
  ⟨h.mem.of_eq hr hc (by rw [hu]) (by rw [hp]) (by rw [hp]), h.ppu.of_eq hp, h.device.of_eq hm hb hl hd hs hu⟩

/-! ### Where addresses lie -/

theorem vramBankEff_le (s : State) : vramBankEff s ≤ 1 := by unfold vramBankEff; split <;> omega

theorem wramBankEff_lt (s : State) : wramBankEff s < 8 := by
  unfold wramBankEff
  split
  · exact s.mbc.wramBank.isLt
  · omega

/-- Every place an address lies at is within its memory. -/
def Loc.bounded (s : State) : Loc → Prop
  | .vram i => i < 0x4000
  | .eram i => i < s.cart.ramBanks * 0x2000
  | .mbc2ram i => i < 512
  | .wram i => i < 0x8000
  | .oam i => i < 160
  | .hram i => i < 127
  | .rom _ | .rtc _ | .openBus | .io _ | .ie => True

theorem wramLoc_bounded (s : State) {a : Nat} (h1 : 0xC000 ≤ a) (h2 : a ≤ 0xDFFF) : (wramLoc s a).bounded s := by
  have := wramBankEff_lt s
  unfold wramLoc
  split <;> simp only [Loc.bounded] <;> omega

theorem eramLoc_bounded (s : State) {n : Nat} (h : n < 0x2000) : (eramLoc s n).bounded s := by
  unfold eramLoc
  split
  · trivial
  · rename_i b _
    split
    · trivial
    · have : b % s.cart.ramBanks < s.cart.ramBanks := Nat.mod_lt _ (by omega)
      simp only [Loc.bounded]
      omega

theorem extLoc_bounded (s : State) {n : Nat} (h : n < 0x2000) : (extLoc s n).bounded s := by
  unfold extLoc
  split
  · trivial
  · split
    · exact Nat.mod_lt n (by omega)
    · split
      · trivial
      · exact eramLoc_bounded s h
    · exact eramLoc_bounded s h

theorem locOf_bounded (s : State) (a : Word) : (locOf s a).bounded s := by
  have hv := vramBankEff_le s
  have ha := a.isLt
  unfold locOf
  dsimp only
  split_ifs
  · trivial
  · trivial
  · simp only [Loc.bounded]; omega
  · exact extLoc_bounded s (by omega)
  · exact wramLoc_bounded s (by omega) (by omega)
  · generalize hk : a.toNat - 0x2000 = k
    exact wramLoc_bounded s (by omega) (by omega)
  · simp only [Loc.bounded]; omega
  · generalize hk : a.toNat - 0x2000 = k
    exact wramLoc_bounded s (by omega) (by omega)
  · trivial
  · simp only [Loc.bounded]; omega
  · trivial

/-! ### Copies -/

theorem MemInv.oamWrite {s : State} (h : MemInv s) {i : Nat} (hi : i < 160) (v : Byte) :
    MemInv { s with mem := { s.mem with oam := s.mem.oam.write i v } } :=
  { h with oam := Memory.sized_write h.oam hi v }

theorem MemInv.vramWrite {s : State} (h : MemInv s) {i : Nat} (hi : i < 0x4000) (v : Byte) :
    MemInv { s with mem := { s.mem with vram := s.mem.vram.write i v } } :=
  { h with vram := Memory.sized_write h.vram hi v }

theorem oamCopy_keeps {src : Word} {n i : Nat} {s t : State} (hi : i + n ≤ 160) (h : MemInv s)
    (hs : oamCopy src n i s = .next t) : MemInv t := by
  induction n generalizing i s with
  | zero => cases hs; exact h
  | succ n ih =>
    obtain ⟨v, -, hv⟩ := andThen_eq_next.1 hs
    exact ih (by omega) (h.oamWrite (by omega) v) hv

theorem hdmaBytes_keeps {n j : Nat} {s t : State} (h : MemInv s) (hs : hdmaBytes n j s = .next t) : MemInv t := by
  induction n generalizing j s with
  | zero => cases hs; exact h
  | succ n ih =>
    obtain ⟨v, -, hv⟩ := andThen_eq_next.1 hs
    refine ih (h.vramWrite ?_ v) hv
    have := vramBankEff_le s
    have := Nat.mod_lt (s.hdma.dst.toNat + j) (show 0 < 0x2000 by omega)
    omega

theorem hdmaBlock_keeps {s t : State} (h : BodyInv s) (hs : hdmaBlock s = .next t) :
    BodyInv t ∧ t.hdma.left = s.hdma.left ∧ t.hdma.hblank = s.hdma.hblank ∧ t.model = s.model := by
  obtain ⟨u, hu, hv⟩ := andThen_eq_next.1 hs
  have hm := hdmaBytes_keeps h.mem hu
  obtain ⟨m, rfl⟩ := hdmaBytes_eq hu
  cases hv
  exact ⟨⟨hm.of_eq rfl rfl rfl rfl rfl, h.ppu.of_eq rfl,
    { h.device with hdmaLeft := h.device.hdmaLeft, hdmaOnDmg := h.device.hdmaOnDmg }⟩, rfl, rfl, rfl⟩

theorem hdmaBlocks_keeps {n : Nat} {s t : State} (h : BodyInv s) (hs : hdmaBlocks n s = .next t) :
    BodyInv t ∧ t.hdma.left = s.hdma.left ∧ t.hdma.hblank = s.hdma.hblank ∧ t.model = s.model := by
  induction n generalizing s with
  | zero => cases hs; exact ⟨h, rfl, rfl, rfl⟩
  | succ n ih =>
    obtain ⟨u, hu, hv⟩ := andThen_eq_next.1 hs
    obtain ⟨k1, k2, k3, k4⟩ := hdmaBlock_keeps h hu
    obtain ⟨l1, l2, l3, l4⟩ := ih k1 hv
    exact ⟨l1, l2.trans k2, l3.trans k3, l4.trans k4⟩

theorem field7_le (v : Byte) : field v 0 7 + 1 ≤ 128 := (v.extractLsb' 0 7).isLt

theorem hdma5Write_keeps {v : Byte} {s t : State} (h : BodyInv s) (hc : s.cgb = true)
    (hs : hdma5Write v s = .next t) : BodyInv t := by
  have hm : s.model ≠ .dmg := by intro hd; simp [State.cgb, hd] at hc
  unfold hdma5Write at hs
  split at hs
  · cases hs
    exact ⟨h.mem.of_eq rfl rfl rfl rfl rfl, h.ppu.of_eq rfl,
      { h.device with hdmaLeft := h.device.hdmaLeft, hdmaOnDmg := fun _ => rfl }⟩
  · split at hs
    · obtain ⟨u, hu, hv⟩ := andThen_eq_next.1 hs
      obtain ⟨k1, k2, k3, k4⟩ := hdmaBlocks_keeps h hu
      cases hv
      exact ⟨k1.mem.of_eq rfl rfl rfl rfl rfl, k1.ppu.of_eq rfl,
        { k1.device with hdmaLeft := by show 0 ≤ 128; omega, hdmaOnDmg := k1.device.hdmaOnDmg }⟩
    · cases hs
      exact ⟨h.mem.of_eq rfl rfl rfl rfl rfl, h.ppu.of_eq rfl,
        { h.device with hdmaLeft := field7_le v, hdmaOnDmg := fun hd => absurd hd hm }⟩

/-! ### Writes -/

theorem waveTable_length (ram : Memory) : (waveTable ram).length = 32 := by simp [waveTable]

/-- A sound register write that keeps the wave RAM, the accumulator and the length of the table. -/
theorem soundWrite_keeps {f : Sound → Sound} {s : State} (h : BodyInv s) (hw : (f s.sound).waveRam = s.sound.waveRam)
    (ha : (f s.sound).sampleAcc = s.sound.sampleAcc) (ht : (f s.sound).ch3.table.length = 32) :
    BodyInv (soundWrite f s) := by
  unfold soundWrite
  split
  · exact ⟨h.mem.of_eq rfl rfl hw rfl rfl, h.ppu.of_eq rfl,
      { h.device with waveTable := ht, sampleAcc := by show (f s.sound).sampleAcc < _; rw [ha]; exact h.device.sampleAcc }⟩
  · exact h

theorem brightFrame_lines (m : Model) : (brightFrame m).length = 144 := by cases m <;> simp [brightFrame]

theorem brightFrame_columns (m : Model) : ∀ l ∈ brightFrame m, l.length = 160 := by
  intro l hl
  rw [List.eq_of_mem_replicate hl]
  simp

theorem lcdcWrite_keeps {s : State} (h : BodyInv s) (v : Byte) : BodyInv (lcdcWrite v s) := by
  have hm (t : State) (h1 : t.mem = s.mem) (h2 : t.cart = s.cart) (h3 : t.sound = s.sound)
      (h4 : t.ppu.bgPalette = s.ppu.bgPalette) (h5 : t.ppu.objPalette = s.ppu.objPalette) : MemInv t :=
    h.mem.of_eq h1 h2 (by rw [h3]) h4 h5
  obtain ⟨q, ⟨h1, h2, e⟩ | ⟨h1, h2, e⟩ | ⟨h1, e⟩⟩ := lcdcWrite_eq v s <;> rw [e]
  · refine ⟨hm _ rfl rfl rfl rfl rfl, ?_, h.device.of_eq rfl rfl rfl rfl rfl rfl⟩
    exact { line := by show 0 < 154; omega, dot := by show 0 < 456; omega
            modeOn := fun hon => absurd (h2.symm.trans hon) (by decide)
            modeOff := fun _ => ⟨rfl, rfl, rfl⟩, coincidence := rfl
            lines := brightFrame_lines _, columns := brightFrame_columns _ }
  · refine ⟨hm _ rfl rfl rfl rfl rfl, ?_, h.device.of_eq rfl rfl rfl rfl rfl rfl⟩
    exact { line := by show 0 < 154; omega, dot := by show 0 < 456; omega
            modeOn := fun _ => rfl, modeOff := fun hoff => absurd (h2.symm.trans hoff) (by decide)
            coincidence := rfl, lines := h.ppu.lines, columns := h.ppu.columns }
  · refine ⟨hm _ rfl rfl rfl rfl rfl, ?_, h.device.of_eq rfl rfl rfl rfl rfl rfl⟩
    exact { line := h.ppu.line, dot := h.ppu.dot, modeOn := fun hon => h.ppu.modeOn (h1.trans hon)
            modeOff := fun hoff => h.ppu.modeOff (h1.trans hoff), coincidence := h.ppu.coincidence
            lines := h.ppu.lines, columns := h.ppu.columns }

theorem lycWrite_keeps {s : State} (h : BodyInv s) (v : Byte) :
    BodyInv (checkLyc { s with ppu := { s.ppu with lyc := v } }) := by
  obtain ⟨q, hq⟩ := checkLyc_eq { s with ppu := { s.ppu with lyc := v } }
  rw [hq]
  exact ⟨h.mem.of_eq rfl rfl rfl rfl rfl,
    { line := h.ppu.line, dot := h.ppu.dot, modeOn := h.ppu.modeOn, modeOff := h.ppu.modeOff, coincidence := rfl
      lines := h.ppu.lines, columns := h.ppu.columns }, h.device.of_eq rfl rfl rfl rfl rfl rfl⟩

/-- A PPU register that the invariant does not look at. -/
theorem ppuWrite_keeps {s : State} {p : Ppu} (h : BodyInv s) (h1 : p.ly = s.ppu.ly) (h2 : p.lineDot = s.ppu.lineDot)
    (h3 : p.mode = s.ppu.mode) (h4 : p.lcdc = s.ppu.lcdc) (h5 : p.lycEqual = s.ppu.lycEqual)
    (h6 : p.lyc = s.ppu.lyc) (h7 : p.frame = s.ppu.frame) (hb : p.bgPalette.sized 64) (ho : p.objPalette.sized 64) :
    BodyInv { s with ppu := p } := by
  refine ⟨{ h.mem with bgPalette := hb, objPalette := ho }, ?_, h.device.of_eq rfl rfl rfl rfl rfl rfl⟩
  constructor <;> simp only [Ppu.lcdOn, h1, h2, h3, h4, h5, h6, h7]
  exacts [h.ppu.line, h.ppu.dot, h.ppu.modeOn, h.ppu.modeOff, h.ppu.coincidence, h.ppu.lines, h.ppu.columns]

theorem hdmaLatch_left (d : Hdma) : (hdmaLatch d).left = d.left ∧ (hdmaLatch d).hblank = d.hblank := ⟨rfl, rfl⟩

theorem hdmaRegWrite_keeps {s : State} (h : BodyInv s) (f : Hdma → Hdma) (hl : (f s.hdma).left = s.hdma.left)
    (hb : (f s.hdma).hblank = s.hdma.hblank) : BodyInv (hdmaRegWrite f s) := by
  refine ⟨h.mem.of_eq rfl rfl rfl rfl rfl, h.ppu.of_eq rfl, { h.device with hdmaLeft := ?_, hdmaOnDmg := fun hm => ?_ }⟩
  · show (if s.cgb then hdmaLatch (f s.hdma) else f s.hdma).left ≤ 128
    split <;> simp only [hdmaLatch_left, hl] <;> exact h.device.hdmaLeft
  · show (if s.cgb then hdmaLatch (f s.hdma) else f s.hdma).hblank = false
    split <;> simp only [hdmaLatch_left, hb] <;> exact h.device.hdmaOnDmg hm

theorem nonzero_or_one (w : BitVec 3) : (if w = 0 then 1 else w) ≠ 0 := by
  split
  · decide
  · assumption

theorem nonzero_or_one5 (w : BitVec 5) : (if w = 0 then 1 else w) ≠ 0 := by
  split
  · decide
  · assumption

theorem ioRegWrite_keeps {r : IoReg} {v : Byte} {s t : State} (h : BodyInv s) (hr : r = .hdma5 → s.cgb = true)
    (hs : ioRegWrite r v s = .next t) : BodyInv t := by
  have hb := h.mem.bgPalette
  have ho := h.mem.objPalette
  have ht := h.device.waveTable
  cases r
  case lcdc => cases hs; exact lcdcWrite_keeps h v
  case lyc => cases hs; exact lycWrite_keeps h v
  case dma =>
    have hm : MemInv t := oamCopy_keeps (s := { s with ppu := { s.ppu with dma := v } }) (n := 160) (i := 0)
      (by omega) (h.mem.of_eq rfl rfl rfl rfl rfl) hs
    obtain ⟨m, rfl⟩ := oamCopy_eq hs
    have := ppuWrite_keeps (p := { s.ppu with dma := v }) h rfl rfl rfl rfl rfl rfl rfl hb ho
    exact ⟨hm, this.ppu.of_eq rfl, this.device.of_eq rfl rfl rfl rfl rfl rfl⟩
  case hdma5 => exact hdma5Write_keeps h (hr rfl) hs
  case hdma1 => cases hs; exact hdmaRegWrite_keeps h _ rfl rfl
  case hdma2 => cases hs; exact hdmaRegWrite_keeps h _ rfl rfl
  case hdma3 => cases hs; exact hdmaRegWrite_keeps h _ rfl rfl
  case hdma4 => cases hs; exact hdmaRegWrite_keeps h _ rfl rfl
  case sc =>
    cases hs
    exact ⟨h.mem.of_eq rfl rfl rfl rfl rfl, h.ppu.of_eq rfl, { h.device with serialBusy := rfl }⟩
  case sb =>
    cases hs
    exact ⟨h.mem.of_eq rfl rfl rfl rfl rfl, h.ppu.of_eq rfl, { h.device with serialBusy := h.device.serialBusy }⟩
  case svbk =>
    cases hs
    exact ⟨h.mem.of_eq rfl rfl rfl rfl rfl, h.ppu.of_eq rfl, { h.device with wramBank := nonzero_or_one _ }⟩
  case bcpd =>
    cases hs
    refine ppuWrite_keeps h rfl rfl rfl rfl rfl rfl rfl (Memory.sized_write hb ?_ v) ho
    exact s.ppu.bcps.index.isLt
  case ocpd =>
    cases hs
    refine ppuWrite_keeps h rfl rfl rfl rfl rfl rfl rfl hb (Memory.sized_write ho ?_ v)
    exact s.ppu.ocps.index.isLt
  case nr14 =>
    cases hs
    refine soundWrite_keeps h ?_ ?_ ?_ <;> unfold nr14Write <;> dsimp only <;> split <;> first | rfl | exact ht
  case nr34 =>
    cases hs
    refine soundWrite_keeps h rfl rfl ?_
    show (waveWrite4 s.sound.waveRam v s.sound.ch3).table.length = 32
    unfold waveWrite4
    dsimp only
    split
    · exact waveTable_length _
    · exact ht
  case nr52 =>
    cases hs
    refine ⟨h.mem.of_eq rfl rfl ?_ rfl rfl, h.ppu.of_eq rfl, { h.device with waveTable := ?_, sampleAcc := ?_ }⟩
    · show (nr52Write v s.sound).waveRam = _
      unfold nr52Write
      split <;> rfl
    · show (nr52Write v s.sound).ch3.table.length = 32
      unfold nr52Write
      split <;> exact ht
    · show (nr52Write v s.sound).sampleAcc < _
      unfold nr52Write
      split <;> exact h.device.sampleAcc
  all_goals cases hs
  all_goals first
    | exact h
    | exact soundWrite_keeps h rfl rfl ht
    | exact ppuWrite_keeps h rfl rfl rfl rfl rfl rfl rfl hb ho
    | exact h.of_eq rfl rfl rfl rfl rfl rfl rfl rfl rfl

theorem ioSlot_wave_lt {a : Byte} {i : Nat} (h : ioSlot a = .wave i) : i < 16 := by
  unfold ioSlot at h
  split at h
  · cases h; omega
  · split at h <;> cases h

theorem storedOnDmg_lt {r : IoReg} {k : Nat} (h : r.storedOnDmg = some k) : k < 0x80 := by
  cases r <;> simp [IoReg.storedOnDmg] at h <;> omega

theorem ioWrite_keeps {a v : Byte} {s t : State} (h : BodyInv s) (hs : ioWrite a v s = .next t) : BodyInv t := by
  unfold ioWrite at hs
  split at hs
  · cases hs
    exact ⟨{ h.mem with waveRam := Memory.sized_write h.mem.waveRam (ioSlot_wave_lt ‹_›) v }, h.ppu.of_eq rfl,
      { h.device with waveTable := h.device.waveTable, sampleAcc := h.device.sampleAcc }⟩
  · simp at hs
  · rename_i r _
    split at hs
    · split at hs
      · exact ioRegWrite_keeps h (fun _ => ‹_›) hs
      · cases hs
        exact ⟨{ h.mem with io := Memory.sized_write h.mem.io (storedOnDmg_lt ‹_›) v }, h.ppu.of_eq rfl,
          h.device.of_eq rfl rfl rfl rfl rfl rfl⟩
    · refine ioRegWrite_keeps h (fun hr => ?_) hs
      subst hr
      simp_all [IoReg.storedOnDmg]

theorem mbcWrite_keeps {s : State} (h : BodyInv s) (a : Word) (v : Byte) : BodyInv (mbcWrite a v s) := by
  unfold mbcWrite
  split
  case h_2 =>
    refine ⟨h.mem.of_eq rfl rfl rfl rfl rfl, h.ppu.of_eq rfl, { h.device with wramBank := ?_, mbc1Low5 := ?_ }⟩
    · show (mbc1Write a.toNat v s.mbc).wramBank ≠ 0
      unfold mbc1Write
      split_ifs <;> exact h.device.wramBank
    · show (mbc1Write a.toNat v s.mbc).mbc1Low5 ≠ 0
      unfold mbc1Write
      split_ifs <;> first | exact h.device.mbc1Low5 | exact nonzero_or_one5 _ | (show (1 : BitVec 5) ≠ 0; decide) | assumption
  case h_3 =>
    refine h.of_eq rfl rfl rfl ?_ ?_ rfl rfl rfl rfl
    · show (mbc2Write a.toNat v s.mbc).wramBank = _
      unfold mbc2Write
      split_ifs <;> rfl
    · show (mbc2Write a.toNat v s.mbc).mbc1Low5 = _
      unfold mbc2Write
      split_ifs <;> rfl
  case h_4 =>
    unfold mbc3Write mbc3Select
    dsimp only
    split_ifs <;> exact h.of_eq rfl rfl rfl rfl rfl rfl rfl rfl rfl
  case h_5 =>
    unfold mbc5Write mbc5Bank
    dsimp only
    split_ifs <;> first | exact h | exact h.of_eq rfl rfl rfl rfl rfl rfl rfl rfl rfl
  all_goals first | exact h | exact h.of_eq rfl rfl rfl rfl rfl rfl rfl rfl rfl

theorem storeLoc_keeps {l : Loc} {v : Byte} {s t : State} (h : BodyInv s) (hl : l.bounded s)
    (hs : storeLoc l v s = .next t) : BodyInv t := by
  have hd (u : State) (h1 : u.model = s.model) (h2 : u.mbc = s.mbc) (h3 : u.hdma = s.hdma) (h4 : u.serial = s.serial)
      (h5 : u.sound = s.sound) : DeviceInv u := h.device.of_eq h1 (by rw [h2]) (by rw [h2]) h3 h4 h5
  cases l
  case io a => exact ioWrite_keeps h hs
  all_goals cases hs
  case vram i => exact ⟨{ h.mem with vram := Memory.sized_write h.mem.vram hl v }, h.ppu.of_eq rfl, hd _ rfl rfl rfl rfl rfl⟩
  case eram i => exact ⟨{ h.mem with eram := Memory.sized_write h.mem.eram hl v }, h.ppu.of_eq rfl, hd _ rfl rfl rfl rfl rfl⟩
  case mbc2ram i =>
    exact ⟨{ h.mem with mbc2ram := Memory.sized_write h.mem.mbc2ram hl _ }, h.ppu.of_eq rfl, hd _ rfl rfl rfl rfl rfl⟩
  case wram i => exact ⟨{ h.mem with wram := Memory.sized_write h.mem.wram hl v }, h.ppu.of_eq rfl, hd _ rfl rfl rfl rfl rfl⟩
  case oam i => exact ⟨{ h.mem with oam := Memory.sized_write h.mem.oam hl v }, h.ppu.of_eq rfl, hd _ rfl rfl rfl rfl rfl⟩
  case hram i => exact ⟨{ h.mem with hram := Memory.sized_write h.mem.hram hl v }, h.ppu.of_eq rfl, hd _ rfl rfl rfl rfl rfl⟩
  all_goals first | exact h | exact h.of_eq rfl rfl rfl rfl rfl rfl rfl rfl rfl

/-- A write to any address keeps the invariant. -/
theorem memWrite_keeps {s t : State} {a : Word} {v : Byte} (h : BodyInv s) (hs : memWrite s a v = .next t) :
    BodyInv t := by
  unfold memWrite at hs
  split at hs
  · split at hs
    · simp at hs
    · cases hs; exact mbcWrite_keeps h a v
  · split at hs
    · cases hs; exact h
    · exact storeLoc_keeps h (locOf_bounded s a) hs

end Sys2Proof.Machine
end

