-- ==== Sys2Proof/Laws/Devices.lean ====
section
/-! SUPPORT. What the timer, the PPU, the sound unit and the host inputs can do in an advance, and that they keep the
invariant. -/

namespace Sys2Proof.Machine

/-- What holds before a loop and is kept by its body holds after it. -/
theorem loopWhile_keeps {α : Type} {P : α → Prop} {cond : α → Bool} {body : α → α}
    (hb : ∀ a, P a → cond a = true → P (body a)) (n : Nat) {a : α} (h : P a) : P (loopWhile cond body n a) := by
  induction n generalizing a with
  | zero => exact h
  | succ n ih =>
    simp only [loopWhile]
    split
    · exact ih (hb a h ‹_›)
    · exact h

/-- Subtracting `p` while at least `p` is left, with fuel for every turn, ends below `p`. -/
theorem loopWhile_lt {α : Type} {m : α → Nat} {p : Nat} {body : α → α} (hp : 0 < p)
    (hb : ∀ a, m (body a) = m a - p) : ∀ (n : Nat) (a : α), m a < (n + 1) * p →
    m (loopWhile (fun x => decide (p ≤ m x)) body n a) < p := by
  intro n
  induction n with
  | zero => intro a h; simpa [loopWhile] using h
  | succ n ih =>
    intro a h
    simp only [loopWhile]
    split
    · apply ih
      rw [hb, Nat.add_mul, Nat.one_mul] at *
      have : (n + 1) * p = n * p + p := by rw [Nat.add_mul, Nat.one_mul]
      omega
    · simp_all

theorem timerPeriod_pos (tac : Byte) : 0 < timerPeriod tac := by
  unfold timerPeriod
  split <;> omega

/-! ### Shades -/

/-- The law of `DMG_SHADES` (62_ppu.md R640). -/
theorem brightness_dmgShades_le (n : BitVec 2) : brightness (dmgShades n) ≤ brightness (dmgShades 0) := by
  unfold dmgShades
  split <;> simp_all

/-- A function that has the law of R640 is `DMG_SHADES` as it stands: imposing the law rules no such function out. -/
theorem dmgShades_eq_shadeWord (h : ∀ n, brightness (Config.shadeWord n) ≤ brightness (Config.shadeWord 0))
    (n : BitVec 2) : dmgShades n = Config.shadeWord n := if_pos (h n)

/-- Of two words of which no channel of the first exceeds that of the second, and the second is no brighter, the
channels are equal, whatever the weights. -/
theorem colourChannel_eq_of_brightness_le {v w : BitVec 32} (hb : brightness w ≤ brightness v)
    (hc : ∀ k < 3, colourChannel v k ≤ colourChannel w k) : ∀ k < 3, colourChannel v k = colourChannel w k := by
  have h0 := hc 0 (by decide)
  have h1 := hc 1 (by decide)
  have h2 := hc 2 (by decide)
  unfold brightness at hb
  have e : colourChannel v 0 = colourChannel w 0 ∧ colourChannel v 1 = colourChannel w 1 ∧
      colourChannel v 2 = colourChannel w 2 := by
    refine ⟨?_, ?_, ?_⟩ <;> nlinarith [Nat.mul_le_mul_left (Config.brightnessWeight 0) h0,
      Nat.mul_le_mul_left (Config.brightnessWeight 1) h1, Nat.mul_le_mul_left (Config.brightnessWeight 2) h2]
  intro k hk
  interval_cases k <;> simp [e]

/-! ### Timer -/

/-- A turn of the timer's loop touches the accumulator, TIMA and IF. -/
theorem timerTurn_eq (p : Nat) (s : State) : ∃ x q, timerTurn p s =
    { s with timer := { s.timer with timaAcc := s.timer.timaAcc - p, tima := x }, irq := { s.irq with ifByte := q } } := by
  unfold timerTurn timaIncrement
  split <;> exact ⟨_, _, rfl⟩

/-- An advance of the timer touches its divider, accumulator and TIMA, and IF; while it is on the accumulator ends
below the period. -/
theorem timerAdvance_eq (c : Nat) (s : State) : ∃ d acc x q,
    timerAdvance c s = { s with
      timer := { s.timer with divCounter := d, timaAcc := acc, tima := x }, irq := { s.irq with ifByte := q } } ∧
    (s.timer.tac.getLsbD 2 = true → acc < timerPeriod s.timer.tac) := by
  unfold timerAdvance
  dsimp only
  split
  · generalize hp : timerPeriod s.timer.tac = p
    have hpos : 0 < p := hp ▸ timerPeriod_pos _
    generalize hs2 : ({ s with timer := { s.timer with
      divCounter := s.timer.divCounter + BitVec.ofNat 16 c, timaAcc := s.timer.timaAcc + c } } : State) = s2
    have key : ∃ d acc x q, loopWhile (fun t => decide (p ≤ t.timer.timaAcc)) (timerTurn p) (s2.timer.timaAcc / p) s2 =
        { s with timer := { s.timer with divCounter := d, timaAcc := acc, tima := x }
                 irq := { s.irq with ifByte := q } } := by
      refine loopWhile_keeps (P := fun t => ∃ d acc x q, t =
        { s with timer := { s.timer with divCounter := d, timaAcc := acc, tima := x }
                 irq := { s.irq with ifByte := q } }) ?_ _ ?_
      · rintro _ ⟨d, acc, x, q, rfl⟩ -
        obtain ⟨x', q', h'⟩ := timerTurn_eq p { s with
          timer := { s.timer with divCounter := d, timaAcc := acc, tima := x }, irq := { s.irq with ifByte := q } }
        exact ⟨d, acc - p, x', q', h'⟩
      · rw [← hs2]; exact ⟨_, _, _, _, rfl⟩
    obtain ⟨d, acc, x, q, hk⟩ := key
    refine ⟨d, acc, x, q, ?_, fun _ => ?_⟩
    · rw [← hk, ← hs2]
    · have hlt := loopWhile_lt (m := fun t : State => t.timer.timaAcc) (body := timerTurn p) hpos
        (fun t => by obtain ⟨x, q, h⟩ := timerTurn_eq p t; rw [h]) (s2.timer.timaAcc / p) s2
        (by rw [Nat.mul_comm]; exact Nat.lt_mul_div_succ _ hpos)
      rw [hk] at hlt
      exact hlt
  · exact ⟨_, s.timer.timaAcc, s.timer.tima, s.irq.ifByte, rfl, fun h => absurd h ‹_›⟩

theorem timerAdvance_keeps {c : Nat} {s : State} (h : BodyInv s) :
    BodyInv (timerAdvance c s) ∧ TimerInv (timerAdvance c s) := by
  obtain ⟨d, acc, x, q, e, hlt⟩ := timerAdvance_eq c s
  rw [e]
  exact ⟨h.of_eq rfl rfl rfl rfl rfl rfl rfl rfl rfl, hlt⟩

/-! ### Host inputs -/

/-- A drain changes the keys, at most bit 4 of IF, and the host's side. -/
theorem drainEvents_eq (s : State) : ∃ k q d, drainEvents s =
    { s with keypad := { s.keypad with keys := k }, irq := { s.irq with ifByte := q }
             host := { s.host with events := Source.rest s.host.events, drains := d } } ∧
    (q = s.irq.ifByte ∨ q = setBitOf s.irq.ifByte 4) := by
  refine ⟨_, _, _, rfl, ?_⟩
  split <;> simp

/-- A latch takes a sample of the clock and changes the host's side of it. -/
theorem latchClock_eq (s : State) : latchClock s =
    { s with mbc := { s.mbc with rtcLatched := clockSample s }
             host := { s.host with clock := Source.rest s.host.clock, clockRequests := .sample :: s.host.clockRequests } } :=
  rfl

/-- A write to a mapped clock register changes its latched byte, and tells the clock and the host. -/
theorem rtcWrite_eq (r : RtcReg) (v : Byte) (s : State) : rtcWrite r v s =
    { s with mbc := { s.mbc with rtcLatched := setRtcByte s.mbc.rtcLatched r v }
             host := { s.host with sent := .rtcSet r v :: s.host.sent
                                   clockRequests := .set r v :: s.host.clockRequests } } := rfl

theorem clearBitOf_bit7 (v : Byte) : (clearBitOf v 7).getLsbD 7 = false := by revert v; decide +kernel

/-- A serial tick changes SB, SC and the transfer bit, IF and the host's side. -/
theorem serialTick_eq (s : State) : ∃ p q o, serialTick s =
    { s with serial := p, irq := { s.irq with ifByte := q }, host := o } ∧
    (s.serial.busy = s.serial.sc.getLsbD 7 → p.busy = p.sc.getLsbD 7) := by
  unfold serialTick
  split
  · dsimp only
    split
    · exact ⟨_, _, _, rfl, id⟩
    · exact ⟨_, _, _, rfl, fun _ => (clearBitOf_bit7 _).symm⟩
  · exact ⟨_, _, _, rfl, id⟩

theorem serialTick_keeps {s : State} (h : BodyInv s) : BodyInv (serialTick s) := by
  obtain ⟨p, q, o, e, hb⟩ := serialTick_eq s
  rw [e]
  exact ⟨h.mem.of_eq rfl rfl rfl rfl rfl, h.ppu.of_eq rfl, { h.device with serialBusy := hb h.device.serialBusy }⟩

/-! ### PPU -/

/-- What an advance of the PPU never changes. -/
structure PpuFrame (s t : State) : Prop where
  model : t.model = s.model
  cart : t.cart = s.cart
  cpu : t.cpu = s.cpu
  ieByte : t.irq.ieByte = s.irq.ieByte
  rom : t.mem.rom = s.mem.rom
  mbc : t.mbc = s.mbc
  timer : t.timer = s.timer
  sound : t.sound = s.sound
  serial : t.serial = s.serial
  lcdc : t.ppu.lcdc = s.ppu.lcdc
  lyc : t.ppu.lyc = s.ppu.lyc
  cost : t.cost = s.cost
  extra : t.extra = s.extra
  fault : t.fault = s.fault

theorem PpuFrame.trans {s t u : State} (h : PpuFrame s t) (k : PpuFrame t u) : PpuFrame s u :=
  ⟨k.model.trans h.model, k.cart.trans h.cart, k.cpu.trans h.cpu, k.ieByte.trans h.ieByte, k.rom.trans h.rom,
    k.mbc.trans h.mbc, k.timer.trans h.timer, k.sound.trans h.sound, k.serial.trans h.serial,
    k.lcdc.trans h.lcdc, k.lyc.trans h.lyc, k.cost.trans h.cost, k.extra.trans h.extra, k.fault.trans h.fault⟩

theorem PpuFrame.mapped {s t : State} (h : PpuFrame s t) (hm : Mapped s) : Mapped t := by
  unfold Mapped; rw [h.cart]; exact hm

/-- The position after one dot. -/
def nextPosition (ly lineDot : Nat) : Nat × Nat := if lineDot + 1 = 456 then ((ly + 1) % 154, 0) else (ly, lineDot + 1)

theorem renderLine_length (s : State) (y : Nat) : (renderLine s y).length = 160 := by simp [renderLine]

theorem set_columns {f : List (List Pixel)} {l : List Pixel} {n : Nat} (h : ∀ x ∈ f, x.length = 160)
    (hl : l.length = 160) : ∀ x ∈ f.set n l, x.length = 160 := by
  intro x hx
  rcases List.mem_or_eq_of_mem_set hx with hx | rfl
  exacts [h x hx, hl]

/-- A dot that ends no line and starts no mode only moves on; the start of mode 3 renders the line. -/
theorem enterTransfer_eq (s : State) : enterTransfer s = { s with ppu := { s.ppu with
    mode := .transfer
    frame := s.ppu.frame.set s.ppu.ly (renderLine (s.setMode .transfer) s.ppu.ly) } } := rfl

/-- A request sets its own bit of IF and leaves the others alone. -/
theorem getLsbD_setBitOf (v : Byte) {k : Nat} (hk : k < 8) (n : Nat) :
    (setBitOf v k).getLsbD n = (v.getLsbD n || decide (n = k)) := by
  unfold setBitOf
  rw [BitVec.getLsbD_or]
  congr 1
  by_cases h : n < 8
  · interval_cases k <;> interval_cases n <;> rfl
  · rw [BitVec.getLsbD_of_ge _ _ (by omega)]
    exact (decide_eq_false (by omega)).symm

/-- Requesting another interrupt leaves request 0 alone. -/
theorem setBitOf_bit0 (v : Byte) {n : Nat} (h : n = 1 ∨ n = 4) : (setBitOf v n).getLsbD 0 = v.getLsbD 0 := by
  rcases h with rfl | rfl <;> rw [getLsbD_setBitOf v (by omega)] <;> simp

theorem setBitOf_bit0_set (v : Byte) : (setBitOf v 0).getLsbD 0 = true := by
  rw [getLsbD_setBitOf v (by omega)]; simp

/-- The STAT request of a mode entry: IF bit 1 is set if the mode's enable is, and every other bit is kept. -/
theorem statRequest_bits (n : Nat) (s : State) : ∃ q, statRequest n s = { s with irq := { s.irq with ifByte := q } } ∧
    ∀ k, q.getLsbD k = (s.irq.ifByte.getLsbD k || (decide (k = 1) && s.ppu.statEnable.getLsbD n)) := by
  unfold statRequest
  split <;> rename_i h
  · exact ⟨_, rfl, fun k => by simp [h, getLsbD_setBitOf]⟩
  · exact ⟨_, rfl, fun k => by simp [h]⟩

theorem statRequest_bit0 (n : Nat) (s : State) : ∃ q, statRequest n s = { s with irq := { s.irq with ifByte := q } } ∧
    q.getLsbD 0 = s.irq.ifByte.getLsbD 0 := by
  obtain ⟨q, h, hb⟩ := statRequest_bits n s
  exact ⟨q, h, by simpa using hb 0⟩

/-- The comparison with LYC: IF bit 1 is set at the leading edge of an enabled match with the LCD on, and every other
bit is kept. -/
theorem checkLyc_bits (s : State) : ∃ q, checkLyc s =
    { s with ppu := { s.ppu with lycEqual := decide (s.ppu.ly = s.ppu.lyc.toNat) }
             irq := { s.irq with ifByte := q } } ∧
    ∀ k, q.getLsbD k = (s.irq.ifByte.getLsbD k || (decide (k = 1) &&
      (s.ppu.lcdOn && !s.ppu.lycEqual && decide (s.ppu.ly = s.ppu.lyc.toNat) && s.ppu.statEnable.getLsbD 3))) := by
  unfold checkLyc
  dsimp only
  split <;> rename_i h
  · exact ⟨_, rfl, fun k => by rw [h]; simp [getLsbD_setBitOf]⟩
  · exact ⟨_, rfl, fun k => by rw [Bool.not_eq_true] at h; rw [h]; simp⟩

theorem checkLyc_bit0 (s : State) : ∃ q, checkLyc s =
    { s with ppu := { s.ppu with lycEqual := decide (s.ppu.ly = s.ppu.lyc.toNat) }
             irq := { s.irq with ifByte := q } } ∧ q.getLsbD 0 = s.irq.ifByte.getLsbD 0 := by
  obtain ⟨q, h, hb⟩ := checkLyc_bits s
  exact ⟨q, h, by simpa using hb 0⟩

theorem hblankBlock_eq {s t : State} (h : hblankBlock s = .next t) :
    ∃ m d, t = { s with mem := { s.mem with vram := m }, hdma := d } := by
  unfold hblankBlock at h
  split at h
  · obtain ⟨u, hu, hv⟩ := andThen_eq_next.1 h
    obtain ⟨m, rfl⟩ := hdmaBlock_eq hu
    cases hv
    exact ⟨m, _, rfl⟩
  · cases h
    exact ⟨s.mem.vram, s.hdma, rfl⟩

theorem hblankBlock_completes {s : State} (h : Mapped s) : ∃ t, hblankBlock s = .next t := by
  unfold hblankBlock
  split
  · obtain ⟨u, hu⟩ := hdmaBlock_completes h
    rw [hu]
    exact ⟨_, rfl⟩
  · exact ⟨_, rfl⟩

theorem hblankBlock_keeps {s t : State} (h : BodyInv s) (hs : hblankBlock s = .next t) : BodyInv t := by
  unfold hblankBlock at hs
  split at hs
  · rename_i hon
    obtain ⟨u, hu, hv⟩ := andThen_eq_next.1 hs
    obtain ⟨k1, k2, k3, k4⟩ := hdmaBlock_keeps h hu
    cases hv
    refine ⟨k1.mem.of_eq rfl rfl rfl rfl rfl, k1.ppu.of_eq rfl, { k1.device with hdmaLeft := ?_, hdmaOnDmg := ?_ }⟩
    · show u.hdma.left - 1 ≤ 128
      have := k1.device.hdmaLeft
      omega
    · intro hd
      have := h.device.hdmaOnDmg (k4 ▸ hd)
      simp [this] at hon
  · cases hs; exact h

/-- The start of mode 0: a possible STAT request, and the H-blank block if one is due. -/
theorem enterHblank_eq {s t : State} (h : enterHblank s = .next t) : ∃ q m d,
    t = { s with ppu := { s.ppu with mode := .hblank }, irq := { s.irq with ifByte := q }
                 mem := { s.mem with vram := m }, hdma := d } ∧
    q.getLsbD 0 = s.irq.ifByte.getLsbD 0 := by
  unfold enterHblank at h
  obtain ⟨q, hq, hb⟩ := statRequest_bit0 0 (s.setMode .hblank)
  rw [hq] at h
  obtain ⟨m, d, rfl⟩ := hblankBlock_eq h
  exact ⟨q, m, d, rfl, hb⟩

/-- The end of a line: the next line from dot 0, the comparison with LYC, and the mode it begins in. Line 144 hands
the frame over and requests interrupt 0; no other line does. -/
theorem nextLine_eq (s : State) : ∃ q k o, nextLine s = { s with
      ppu := { s.ppu with
        lineDot := 0, ly := (s.ppu.ly + 1) % 154, lycEqual := decide ((s.ppu.ly + 1) % 154 = s.ppu.lyc.toNat)
        mode := if (s.ppu.ly + 1) % 154 < 144 then .oamScan
          else if (s.ppu.ly + 1) % 154 = 144 then .vblank else s.ppu.mode }
      irq := { s.irq with ifByte := q }, keypad := k, host := o } ∧
    ((s.ppu.ly + 1) % 154 ≠ 144 → o = s.host ∧ q.getLsbD 0 = s.irq.ifByte.getLsbD 0) ∧
    ((s.ppu.ly + 1) % 154 = 144 → o.sent = .frame s.ppu.frame :: s.host.sent ∧ q.getLsbD 0 = true) := by
  obtain ⟨q, hq, hb⟩ := checkLyc_bit0 { s with ppu := { s.ppu with lineDot := 0, ly := (s.ppu.ly + 1) % 154 } }
  unfold nextLine
  dsimp only
  rw [hq]
  dsimp only
  split
  · rename_i h
    obtain ⟨q', hq', hb'⟩ := statRequest_bit0 2 (State.setMode { s with
      ppu := { s.ppu with lineDot := 0, ly := (s.ppu.ly + 1) % 154
                          lycEqual := decide ((s.ppu.ly + 1) % 154 = s.ppu.lyc.toNat) }
      irq := { s.irq with ifByte := q } } .oamScan)
    refine ⟨q', s.keypad, s.host, ?_, fun _ => ⟨rfl, hb'.trans hb⟩, fun h' => by omega⟩
    unfold enterOamScan
    rw [hq']
    rfl
  · split
    · rename_i h
      obtain ⟨q', hq', hb'⟩ := statRequest_bit0 1 ((State.setMode { s with
        ppu := { s.ppu with lineDot := 0, ly := (s.ppu.ly + 1) % 154
                            lycEqual := decide ((s.ppu.ly + 1) % 154 = s.ppu.lyc.toNat) }
        irq := { s.irq with ifByte := q } } .vblank).request 0)
      unfold enterVblank
      dsimp only
      rw [hq']
      refine ⟨_, _, _, rfl, fun h' => absurd h h', fun _ => ⟨rfl, ?_⟩⟩
      split
      · exact hb'.trans (setBitOf_bit0_set _)
      · exact (setBitOf_bit0 _ (.inr rfl)).trans (hb'.trans (setBitOf_bit0_set _))
    · rename_i h
      exact ⟨q, s.keypad, s.host, rfl, fun _ => ⟨rfl, hb⟩, fun h' => absurd h' h⟩

/-- How many frames have been handed to the host. -/
def framesSent (s : State) : Nat := s.host.sent.countP fun m => match m with
  | .frame _ => true
  | _ => false

/-- One dot from a position that exists, in the mode it stands for: the next position, in its mode; one frame and
interrupt 0 at the start of line 144, neither elsewhere. -/
theorem ppuDot_position {s t : State} (h : PpuInv s) (hon : s.ppu.lcdOn = true) (hs : ppuDot s = .next t) :
    PpuFrame s t ∧ PpuInv t ∧ (t.ppu.ly, t.ppu.lineDot) = nextPosition s.ppu.ly s.ppu.lineDot ∧
    (if s.ppu.ly = 143 ∧ s.ppu.lineDot = 455 then framesSent t = framesSent s + 1 ∧ t.irq.ifByte.getLsbD 0 = true
     else framesSent t = framesSent s ∧ t.irq.ifByte.getLsbD 0 = s.irq.ifByte.getLsbD 0) := by
  have hl := h.line
  have hd := h.dot
  have hm := h.modeOn hon
  have off {p : Ppu} (hp : p.lcdc = s.ppu.lcdc) : p.lcdOn = true := by
    rw [← hon]; simp only [Ppu.lcdOn, hp]
  unfold ppuDot at hs
  dsimp only at hs
  split at hs
  · rename_i hc
    cases hs
    rw [enterTransfer_eq]
    refine ⟨⟨rfl, rfl, rfl, rfl, rfl, rfl, rfl, rfl, rfl, rfl, rfl, rfl, rfl, rfl⟩,
      { line := hl, dot := ?_, modeOn := fun _ => ?_, modeOff := fun ho => ?_, coincidence := h.coincidence
        lines := ?_, columns := ?_ }, ?_, ?_⟩
    · show s.ppu.lineDot + 1 < 456; omega
    · show PpuMode.transfer = modeAt s.ppu.ly (s.ppu.lineDot + 1)
      simp only [modeAt, hc.2]; rw [if_neg (by omega)]; rfl
    · exact absurd ((off rfl).symm.trans ho) (by decide)
    · show (s.ppu.frame.set _ _).length = 144
      rw [List.length_set]; exact h.lines
    · exact set_columns h.columns (renderLine_length _ _)
    · show (s.ppu.ly, s.ppu.lineDot + 1) = _
      simp only [nextPosition]; rw [if_neg (by omega)]
    · rw [if_neg (by omega)]; exact ⟨rfl, rfl⟩
  · split at hs
    · rename_i _ hc
      obtain ⟨q, m, d, rfl, hq⟩ := enterHblank_eq hs
      refine ⟨⟨rfl, rfl, rfl, rfl, rfl, rfl, rfl, rfl, rfl, rfl, rfl, rfl, rfl, rfl⟩,
        { line := hl, dot := ?_, modeOn := fun _ => ?_, modeOff := fun ho => ?_, coincidence := h.coincidence
          lines := h.lines, columns := h.columns }, ?_, ?_⟩
      · show s.ppu.lineDot + 1 < 456; omega
      · show PpuMode.hblank = modeAt s.ppu.ly (s.ppu.lineDot + 1)
        simp only [modeAt, hc.2]; rw [if_neg (by omega)]; rfl
      · exact absurd ((off rfl).symm.trans ho) (by decide)
      · show (s.ppu.ly, s.ppu.lineDot + 1) = _
        simp only [nextPosition]; rw [if_neg (by omega)]
      · rw [if_neg (by omega)]; exact ⟨rfl, hq⟩
    · split at hs
      · rename_i _ _ hc
        cases hs
        obtain ⟨q, k, o, e, f1, f2⟩ := nextLine_eq { s with ppu := { s.ppu with lineDot := s.ppu.lineDot + 1 } }
        dsimp only at e f1 f2
        rw [e]
        refine ⟨⟨rfl, rfl, rfl, rfl, rfl, rfl, rfl, rfl, rfl, rfl, rfl, rfl, rfl, rfl⟩,
          { line := Nat.mod_lt _ (by omega), dot := ?_, modeOn := fun _ => ?_, modeOff := fun ho => ?_
            coincidence := rfl, lines := h.lines, columns := h.columns }, ?_, ?_⟩
        · show 0 < 456; omega
        · show (if (s.ppu.ly + 1) % 154 < 144 then PpuMode.oamScan
            else if (s.ppu.ly + 1) % 154 = 144 then .vblank else s.ppu.mode) = modeAt ((s.ppu.ly + 1) % 154) 0
          simp only [modeAt]
          by_cases h1 : (s.ppu.ly + 1) % 154 < 144
          · rw [if_pos h1, if_neg (by omega)]; rfl
          · have h2 : 144 ≤ (s.ppu.ly + 1) % 154 := by omega
            rw [if_neg h1, if_pos h2]
            by_cases h3 : (s.ppu.ly + 1) % 154 = 144
            · rw [if_pos h3]
            · have h4 : 144 ≤ s.ppu.ly := by omega
              rw [if_neg h3, hm]
              simp only [modeAt]
              rw [if_pos h4]
        · exact absurd ((off rfl).symm.trans ho) (by decide)
        · show ((s.ppu.ly + 1) % 154, 0) = _
          simp only [nextPosition]; rw [if_pos hc]
        · by_cases h1 : s.ppu.ly = 143
          · obtain ⟨g1, g2⟩ := f2 (by omega)
            rw [if_pos ⟨h1, by omega⟩]
            refine ⟨?_, g2⟩
            simp only [framesSent, g1, List.countP_cons]
            rfl
          · obtain ⟨rfl, g2⟩ := f1 (by omega)
            rw [if_neg (by omega)]
            exact ⟨rfl, g2⟩
      · rename_i h1 h2 h3
        cases hs
        refine ⟨⟨rfl, rfl, rfl, rfl, rfl, rfl, rfl, rfl, rfl, rfl, rfl, rfl, rfl, rfl⟩,
          { line := hl, dot := ?_, modeOn := fun _ => ?_, modeOff := fun ho => ?_, coincidence := h.coincidence
            lines := h.lines, columns := h.columns }, ?_, ?_⟩
        · show s.ppu.lineDot + 1 < 456; omega
        · show s.ppu.mode = modeAt s.ppu.ly (s.ppu.lineDot + 1)
          rw [hm]
          simp only [modeAt]
          split_ifs <;> first | rfl | omega
        · exact absurd ((off rfl).symm.trans ho) (by decide)
        · show (s.ppu.ly, s.ppu.lineDot + 1) = _
          simp only [nextPosition]; rw [if_neg h3]
        · rw [if_neg (by omega)]; exact ⟨rfl, rfl⟩

theorem ppuDot_completes {s : State} (h : Mapped s) : ∃ t, ppuDot s = .next t := by
  unfold ppuDot
  dsimp only
  split
  · exact ⟨_, rfl⟩
  · split
    · refine hblankBlock_completes ?_
      obtain ⟨q, hq, -⟩ := statRequest_bit0 0 (State.setMode { s with
        ppu := { s.ppu with lineDot := s.ppu.lineDot + 1 } } .hblank)
      rw [hq]
      exact h
    · split <;> exact ⟨_, rfl⟩

/-- Dots from a position that exists, with the LCD on, all complete. -/
theorem ppuDots_completes {d : Nat} {s : State} (h : PpuInv s) (hon : s.ppu.lcdOn = true) (hm : Mapped s) :
    ∃ t, ppuDots d s = .next t := by
  induction d generalizing s with
  | zero => exact ⟨s, rfl⟩
  | succ d ih =>
    obtain ⟨u, hu⟩ := ppuDot_completes hm
    obtain ⟨hf, hi, -, -⟩ := ppuDot_position h hon hu
    obtain ⟨t, ht⟩ := ih hi (by unfold Ppu.lcdOn at *; rw [hf.lcdc]; exact hon) (hf.mapped hm)
    exact ⟨t, by simp only [ppuDots, hu, andThen]; exact ht⟩

/-- One dot keeps the invariant. -/
theorem ppuDot_keeps {s t : State} (h : BodyInv s) (hon : s.ppu.lcdOn = true) (hs : ppuDot s = .next t) :
    BodyInv t := by
  obtain ⟨-, hp, -, -⟩ := ppuDot_position h.ppu hon hs
  have dev (u : State) (h1 : u.model = s.model) (h2 : u.mbc = s.mbc) (h3 : u.hdma = s.hdma) (h4 : u.serial = s.serial)
      (h5 : u.sound = s.sound) : DeviceInv u := h.device.of_eq h1 (by rw [h2]) (by rw [h2]) h3 h4 h5
  unfold ppuDot at hs
  dsimp only at hs
  split at hs
  · cases hs
    exact ⟨h.mem.of_eq rfl rfl rfl rfl rfl, hp, dev _ rfl rfl rfl rfl rfl⟩
  · split at hs
    · obtain ⟨q, hq, -⟩ := statRequest_bit0 0 (State.setMode { s with
        ppu := { s.ppu with lineDot := s.ppu.lineDot + 1 } } .hblank)
      unfold enterHblank at hs
      rw [hq] at hs
      have hpre : MemInv { State.setMode { s with ppu := { s.ppu with lineDot := s.ppu.lineDot + 1 } } .hblank with
          irq := { s.irq with ifByte := q } } := h.mem.of_eq rfl rfl rfl rfl rfl
      unfold hblankBlock at hs
      split at hs
      · rename_i hact
        obtain ⟨u, hu, hv⟩ := andThen_eq_next.1 hs
        obtain ⟨w, hw, hx⟩ := andThen_eq_next.1 hu
        have hk := hdmaBytes_keeps hpre hw
        obtain ⟨m, rfl⟩ := hdmaBytes_eq hw
        cases hx
        cases hv
        refine ⟨hk.of_eq rfl rfl rfl rfl rfl, hp, { h.device with hdmaLeft := ?_, hdmaOnDmg := ?_ }⟩
        · show s.hdma.left - 1 ≤ 128
          have := h.device.hdmaLeft
          omega
        · intro hd
          have := h.device.hdmaOnDmg hd
          have hact' : s.hdma.hblank = true := hact
          simp [this] at hact'
      · cases hs
        exact ⟨hpre.of_eq rfl rfl rfl rfl rfl, hp, dev _ rfl rfl rfl rfl rfl⟩
    · split at hs
      · cases hs
        obtain ⟨q, k, o, e, -, -⟩ := nextLine_eq { s with ppu := { s.ppu with lineDot := s.ppu.lineDot + 1 } }
        rw [e] at hp ⊢
        exact ⟨h.mem.of_eq rfl rfl rfl rfl rfl, hp, dev _ rfl rfl rfl rfl rfl⟩
      · cases hs
        exact ⟨h.mem.of_eq rfl rfl rfl rfl rfl, hp, dev _ rfl rfl rfl rfl rfl⟩

theorem PpuFrame.refl (s : State) : PpuFrame s s :=
  ⟨rfl, rfl, rfl, rfl, rfl, rfl, rfl, rfl, rfl, rfl, rfl, rfl, rfl, rfl⟩

theorem PpuFrame.lcdOn {s t : State} (h : PpuFrame s t) : t.ppu.lcdOn = s.ppu.lcdOn := by
  simp only [Ppu.lcdOn, h.lcdc]

theorem ppuDots_keeps {d : Nat} {s t : State} (h : BodyInv s) (hon : s.ppu.lcdOn = true) (hs : ppuDots d s = .next t) :
    BodyInv t ∧ PpuFrame s t := by
  induction d generalizing s with
  | zero => cases hs; exact ⟨h, .refl _⟩
  | succ d ih =>
    obtain ⟨u, hu, hv⟩ := andThen_eq_next.1 hs
    obtain ⟨hf, -, -, -⟩ := ppuDot_position h.ppu hon hu
    obtain ⟨k1, k2⟩ := ih (ppuDot_keeps h hon hu) (hf.lcdOn.trans hon) hv
    exact ⟨k1, hf.trans k2⟩

/-- An advance of the PPU keeps the invariant and all that lies outside the PPU, VRAM, IF, the transfer engine, the
keypad and the host. -/
theorem ppuAdvance_keeps {d : Nat} {s t : State} (h : BodyInv s) (hs : ppuAdvance d s = .next t) :
    BodyInv t ∧ PpuFrame s t := by
  unfold ppuAdvance at hs
  split at hs
  · exact ppuDots_keeps h ‹_› hs
  · cases hs; exact ⟨h, .refl _⟩

/-! ### Sound unit -/

theorem toneClock_env (c : Tone) : (toneClock c).nrx4 = c.nrx4 := rfl

theorem waveTimer_length {ram : Memory} {c : Wave} (h : c.table.length = 32) : (waveTimer ram c).table.length = 32 := by
  unfold waveTimer
  dsimp only
  refine loopWhile_keeps (P := fun x : Wave => x.table.length = 32) ?_ _ h
  intro x hx _
  unfold waveStep
  dsimp only
  split
  · exact waveTable_length ram
  · exact hx

/-- The sweep changes channel 1 and its own time only. -/
theorem sweepClock_eq (u : Sound) : ∃ a t, sweepClock u = { u with ch1 := a, sweepT := t } := by
  unfold sweepClock
  dsimp only
  split
  · exact ⟨_, _, rfl⟩
  · refine loopWhile_keeps (P := fun x : Sound => ∃ a t, x = { u with ch1 := a, sweepT := t }) ?_ _ ⟨_, _, rfl⟩
    rintro _ ⟨a, t, rfl⟩ -
    unfold sweepStep
    dsimp only
    split_ifs <;> exact ⟨_, _, rfl⟩

/-- The clocks of the channels keep everything but the channels and the sweep's time, and the length of the table. -/
theorem clockChannels_eq (u : Sound) : ∃ a b c d t, clockChannels u =
    { u with ch1 := a, ch2 := b, ch3 := c, ch4 := d, sweepT := t } ∧
    (u.ch3.table.length = 32 → c.table.length = 32) := by
  obtain ⟨a, t, h1⟩ : ∃ a t, (if u.ch1.on then sweepClock { u with ch1 := toneClock u.ch1 } else u) =
      { u with ch1 := a, sweepT := t } := by
    split
    · obtain ⟨a, t, h⟩ := sweepClock_eq { u with ch1 := toneClock u.ch1 }
      exact ⟨a, t, h⟩
    · exact ⟨_, _, rfl⟩
  unfold clockChannels
  rw [h1]
  dsimp only
  refine ⟨a, if u.ch2.on then toneClock u.ch2 else u.ch2, if u.ch3.on then waveClock u.waveRam u.ch3 else u.ch3,
    if u.ch4.on then noiseClock u.ch4 else u.ch4, t, ?_, fun h => ?_⟩
  · cases u.ch2.on <;> cases h3 : u.ch3.on <;> cases h4 : u.ch4.on <;> simp [h3, h4]
  · split
    · exact waveTimer_length h
    · exact h

/-- A sample clocks the channels, gives the output filters one more input and hands its frame to the host. -/
theorem sampleTick_eq (s : State) : ∃ u i, sampleTick s =
    { s with sound := u, host := { s.host with sent := .audio (i :: s.sound.filter) :: s.host.sent } } ∧
    u.filter = i :: s.sound.filter ∧ u.sampleAcc = s.sound.sampleAcc ∧ u.waveRam = s.sound.waveRam ∧
    (s.sound.ch3.table.length = 32 → u.ch3.table.length = 32) := by
  obtain ⟨a, b, c, d, t, e, h⟩ := clockChannels_eq s.sound
  have hf : (clockChannels s.sound).filter = s.sound.filter := by rw [e]
  refine ⟨{ clockChannels s.sound with filter := soundInput (clockChannels s.sound) :: s.sound.filter },
    soundInput (clockChannels s.sound), ?_, rfl, ?_, ?_, ?_⟩
  · simp only [sampleTick, hf]
    rfl
  all_goals simp only [e]
  exact h

/-- Each side of a frame lies in [-1, 1], whatever the open filters are (63_sound.md R745). -/
theorem sideOutput_bounds (side : Side) (samples : FilterState) :
    -1 ≤ sideOutput side samples ∧ sideOutput side samples ≤ 1 :=
  ⟨le_max_left _ _, max_le (by norm_num) (min_le_left _ _)⟩

/-- One turn of the loop of R701: a sample less in the accumulator, then the sample. -/
theorem sampleTurn_eq (p : Nat) (s : State) : ∃ u o,
    sampleTick { s with sound := { s.sound with sampleAcc := s.sound.sampleAcc - p } } =
      { s with sound := u, host := o } ∧
    u.sampleAcc = s.sound.sampleAcc - p ∧ u.waveRam = s.sound.waveRam ∧
    (s.sound.ch3.table.length = 32 → u.ch3.table.length = 32) := by
  obtain ⟨u, i, e, -, k1, k2, k3⟩ := sampleTick_eq { s with
    sound := { s.sound with sampleAcc := s.sound.sampleAcc - p } }
  rw [e]
  exact ⟨u, _, rfl, k1, k2, k3⟩

/-- An advance of the sound unit changes the sound unit and the host only; the accumulator ends below one sample. -/
theorem soundAdvance_eq (d : Nat) (s : State) : ∃ u o, soundAdvance d s = { s with sound := u, host := o } ∧
    u.sampleAcc < cpuClockHz ∧ u.waveRam = s.sound.waveRam ∧
    (s.sound.ch3.table.length = 32 → u.ch3.table.length = 32) := by
  have hpos : 0 < cpuClockHz := Nat.zero_lt_succ _
  simp only [soundAdvance]
  generalize cpuClockHz = p, sampleHz = q at hpos ⊢
  generalize hs1 : ({ s with sound := { s.sound with sampleAcc := s.sound.sampleAcc + q * d } } : State) = s1
  have key : ∃ u o, loopWhile (fun t => decide (p ≤ t.sound.sampleAcc))
      (fun t => sampleTick { t with sound := { t.sound with sampleAcc := t.sound.sampleAcc - p } })
      (s1.sound.sampleAcc / p) s1 = { s with sound := u, host := o } ∧ u.waveRam = s.sound.waveRam ∧
      (s.sound.ch3.table.length = 32 → u.ch3.table.length = 32) := by
    refine loopWhile_keeps (P := fun t => ∃ u o, t = { s with sound := u, host := o } ∧
      u.waveRam = s.sound.waveRam ∧ (s.sound.ch3.table.length = 32 → u.ch3.table.length = 32)) ?_ _ ?_
    · rintro _ ⟨u, o, rfl, h1, h2⟩ -
      obtain ⟨u', o', e, -, k1, k2⟩ := sampleTurn_eq p { s with sound := u, host := o }
      rw [e]
      exact ⟨u', o', rfl, k1.trans h1, fun h => k2 (h2 h)⟩
    · rw [← hs1]; exact ⟨_, s.host, rfl, rfl, id⟩
  obtain ⟨u, o, hk, h1, h2⟩ := key
  refine ⟨u, o, by rw [← hk, ← hs1], ?_, h1, h2⟩
  have hlt := loopWhile_lt (m := fun t : State => t.sound.sampleAcc)
    (body := fun t => sampleTick { t with sound := { t.sound with sampleAcc := t.sound.sampleAcc - p } })
    hpos (fun t => by
      obtain ⟨u', o', e, k, -, -⟩ := sampleTurn_eq p t
      rw [e]; exact k) (s1.sound.sampleAcc / p) s1
    (by rw [Nat.mul_comm]; exact Nat.lt_mul_div_succ _ hpos)
  rw [hk] at hlt
  exact hlt

theorem soundAdvance_keeps {d : Nat} {s : State} (h : BodyInv s) : BodyInv (soundAdvance d s) := by
  obtain ⟨u, o, e, h1, h2, h3⟩ := soundAdvance_eq d s
  rw [e]
  exact ⟨h.mem.of_eq rfl rfl h2 rfl rfl, h.ppu.of_eq rfl,
    { h.device with waveTable := h3 h.device.waveTable, sampleAcc := h1 }⟩

end Sys2Proof.Machine
end

