-- ==== Sys2Proof/Laws/Exec.lean ====
section
/-! SUPPORT. `exec` by operand form: the one case split over all instructions. -/

namespace Sys2Proof.Machine

/-- The shared operation of each form. -/
def formMeaning (f : Form) (s : State) : Out State :=
  match f with
  | .nop => noOperation s
  | .ldR8 dst src => loadR8 dst src s
  | .ldR8Imm dst d => loadR8Imm dst d s
  | .ldAInd m => loadInd m s
  | .ldIndA m => storeInd m s
  | .ldAMem a => loadAbs a s
  | .ldMemA a => storeAbs a s
  | .ldhLoad a => loadHigh a s
  | .ldhStore a => storeHigh a s
  | .ldAHighC => loadHighC s
  | .ldHighCA => storeHighC s
  | .ldR16 r d => loadR16 r d s
  | .ldMemSp a => storeSp a s
  | .ldSpHl => loadSpHl s
  | .ldHlSp e => loadHlSp e s
  | .push r => pushPair r s
  | .pop r => popPair r s
  | .alu op src => aluR8 op src s
  | .aluImm op d => aluImm op d s
  | .incR8 r => incR8 r s
  | .decR8 r => decR8 r s
  | .cpl => complementA s
  | .scf => setCarry s
  | .ccf => complementCarry s
  | .daa => decimalAdjust s
  | .incR16 r => incR16 r s
  | .decR16 r => decR16 r s
  | .addHl r => addHl r s
  | .addSp e => addSp e s
  | .rotA op => rotateA op s
  | .shift op r => shiftR8 op r s
  | .bit n r => bitBit n r s
  | .res n r => resBit n r s
  | .set n r => setBit n r s
  | .jp a => jump a s
  | .jpCc cc a => jumpIf cc a s
  | .jpHl => jumpHl s
  | .jr e => jumpRel e s
  | .jrCc cc e => jumpRelIf cc e s
  | .call a => call a s
  | .callCc cc a => callIf cc a s
  | .ret => returnCall s
  | .retCc cc => returnIf cc s
  | .reti => returnEnable s
  | .rst n => restart n s
  | .halt => haltCpu s
  | .stop b => speedSwitch b s
  | .ei => enableInterrupts s
  | .di => disableInterrupts s
  | .prefixCb c => prefixCb c s
  | .illegal op => illegalOpcode op s

/-- An instruction does what its form says. -/
theorem exec_eq_formMeaning (i : Instr) (s : State) : exec i s = formMeaning i.form s := by
  cases i <;> rfl

theorem exec_of_form {i : Instr} {f : Form} (h : i.form = f) (s : State) : exec i s = formMeaning f s := by
  rw [exec_eq_formMeaning, h]

end Sys2Proof.Machine
end

