-- ==== Sys2Proof/Laws/Operands.lean ====
section
/-! SUPPORT. Operands by what they are, and the stack. -/

namespace Sys2Proof.Machine

@[simp] theorem hlMem_reg : R8.hlMem.reg = none := rfl

/-- The one operand code that is no register. -/
theorem R8_reg_eq_none {r : R8} : r.reg = none ↔ r = .hlMem := by cases r <;> simp [R8.reg]

@[simp] theorem readR8_mem (s : State) : readR8 .hlMem s = memRead s s.hl := rfl

@[simp] theorem writeR8_mem (v : Byte) (s : State) : writeR8 .hlMem v s = memWrite s s.hl v := rfl

@[simp] theorem r8Cost_mem (n m : Nat) : r8Cost .hlMem n m = m := rfl

theorem readR8_reg {r : R8} {p : Reg} (h : r.reg = some p) (s : State) : readR8 r s = .next (s.reg p) := by
  simp [readR8, h]

theorem writeR8_reg {r : R8} {p : Reg} (h : r.reg = some p) (v : Byte) (s : State) :
    writeR8 r v s = .next (s.setReg p v) := by
  simp [writeR8, h]

theorem r8Cost_reg {r : R8} {p : Reg} (h : r.reg = some p) (n m : Nat) : r8Cost r n m = n := by
  simp [r8Cost, h]

/-- What a memory access leaves in HL. -/
theorem WriteFrame.hl {s t : State} (h : WriteFrame s t) : t.hl = s.hl := by
  unfold State.hl
  rw [h.cpu]

theorem WriteFrame.reg {s t : State} (h : WriteFrame s t) (r : Reg) : t.reg r = s.reg r := by
  cases r <;> simp only [State.reg] <;> rw [h.cpu]

theorem sub_one_sub_one (a : Word) : a - 1 - 1 = a - 2 := by bv_omega

theorem add_one_add_one (a : Word) : a + 1 + 1 = a + 2 := by bv_omega

/-- A push that neither address stops: its two writes, and SP two lower. -/
theorem push16_completes {s : State} (v : Word) (hm : Mapped s) (hp : PushOk s.cpu.sp) :
    ∃ t u, memWrite (s.setSp (s.cpu.sp - 1)) (s.cpu.sp - 1) (hiByte v) = .next t ∧
      memWrite (t.setSp (s.cpu.sp - 2)) (s.cpu.sp - 2) (loByte v) = .next u ∧
      WriteFrame (s.setSp (s.cpu.sp - 2)) u ∧ push16 v s = .next u := by
  obtain ⟨t, ht⟩ := memWrite_completes (s := s.setSp (s.cpu.sp - 1)) hm hp.1 (hiByte v)
  have hf := memWrite_frame ht
  have hsp : t.cpu.sp = s.cpu.sp - 1 := by rw [hf.cpu]; rfl
  have hm' : Mapped (t.setSp (s.cpu.sp - 2)) := hf.mapped hm
  obtain ⟨u, hu⟩ := memWrite_completes hm' hp.2 (loByte v)
  have hk : WriteFrame (s.setSp (s.cpu.sp - 2)) (t.setSp (s.cpu.sp - 2)) :=
    ⟨hf.model, hf.cart, hf.rom, by unfold State.setSp; rw [hf.cpu]; rfl, hf.armed, hf.cost, hf.fault⟩
  exact ⟨t, u, ht, hu, hk.trans (memWrite_frame hu), by
    simp only [push16, sp_setSp, ht, andThen_next, hsp, sub_one_sub_one, hu]⟩

/-- A push that goes on was its two writes. -/
theorem push16_eq_next {s u : State} {v : Word} (h : push16 v s = .next u) :
    ∃ t, memWrite (s.setSp (s.cpu.sp - 1)) (s.cpu.sp - 1) (hiByte v) = .next t ∧
      memWrite (t.setSp (s.cpu.sp - 2)) (s.cpu.sp - 2) (loByte v) = .next u ∧
      WriteFrame (s.setSp (s.cpu.sp - 2)) u := by
  obtain ⟨t, ht, hu⟩ := andThen_eq_next.1 h
  have ht' : memWrite (s.setSp (s.cpu.sp - 1)) (s.cpu.sp - 1) (hiByte v) = .next t := ht
  have hf := memWrite_frame ht'
  have hsp : t.cpu.sp = s.cpu.sp - 1 := by rw [hf.cpu]; rfl
  simp only [sp_setSp, hsp, sub_one_sub_one] at hu
  have hk : WriteFrame (s.setSp (s.cpu.sp - 2)) (t.setSp (s.cpu.sp - 2)) :=
    ⟨hf.model, hf.cart, hf.rom, by unfold State.setSp; rw [hf.cpu]; rfl, hf.armed, hf.cost, hf.fault⟩
  exact ⟨t, ht', hu, hk.trans (memWrite_frame hu)⟩

/-- Moving SP changes no byte. -/
theorem readByte_setSp (s : State) (v a : Word) : readByte (s.setSp v) a = readByte s a :=
  readByte_same ⟨rfl, rfl, rfl, rfl, rfl, rfl, rfl, rfl, rfl, rfl, rfl, rfl, rfl, rfl⟩ rfl rfl a

/-- A pop on a mapped cartridge's machine. -/
theorem pop16_mapped {s : State} (hm : Mapped s) : pop16 s =
    .next (pairOf (readByte s (s.cpu.sp + 1)) (readByte s s.cpu.sp), s.setSp (s.cpu.sp + 2)) := by
  have hm' : Mapped (s.setSp (s.cpu.sp + 1)) := hm
  simp only [pop16, memRead_mapped hm, andThen_next, memRead_mapped hm', sp_setSp, readByte_setSp, add_one_add_one]
  rfl

/-- A pop that goes on. -/
theorem pop16_eq_next {s : State} {x : Word × State} (h : pop16 s = .next x) :
    x = (pairOf (readByte s (s.cpu.sp + 1)) (readByte s s.cpu.sp), s.setSp (s.cpu.sp + 2)) := by
  obtain ⟨lo, hlo, h2⟩ := andThen_eq_next.1 h
  obtain ⟨hi, hhi, h3⟩ := andThen_eq_next.1 h2
  rw [memRead_eq_next hlo, memRead_eq_next hhi] at h3
  simp only [sp_setSp, readByte_setSp, add_one_add_one] at h3
  cases h3
  rfl

end Sys2Proof.Machine
end

