-- ==== Sys2Proof/Laws/PerInstr.lean ====
section
/-! SUPPORT. The family of statements made per instruction: the encoding of an instruction has the length its
row gives (spec/30_encoding.md R211). -/

namespace Sys2Proof.Laws.EncodeLength

/-- An instruction's encoding has as many bytes as the instruction is long. -/
def Statement (i : Instr) : Prop := (encode i).length = i.length

theorem NOP : Statement .NOP := rfl
theorem LD_BC_d16 (d : Word) : Statement (.LD_BC_d16 d) := rfl
theorem LD__BC__A : Statement .LD__BC__A := rfl
theorem INC_BC : Statement .INC_BC := rfl
theorem INC_B : Statement .INC_B := rfl
theorem DEC_B : Statement .DEC_B := rfl
theorem LD_B_d8 (d : Byte) : Statement (.LD_B_d8 d) := rfl
theorem RLCA : Statement .RLCA := rfl
theorem LD__a16__SP (a : Word) : Statement (.LD__a16__SP a) := rfl
theorem ADD_HL_BC : Statement .ADD_HL_BC := rfl
theorem LD_A__BC : Statement .LD_A__BC := rfl
theorem DEC_BC : Statement .DEC_BC := rfl
theorem INC_C : Statement .INC_C := rfl
theorem DEC_C : Statement .DEC_C := rfl
theorem LD_C_d8 (d : Byte) : Statement (.LD_C_d8 d) := rfl
theorem RRCA : Statement .RRCA := rfl
theorem LD_DE_d16 (d : Word) : Statement (.LD_DE_d16 d) := rfl
theorem LD__DE__A : Statement .LD__DE__A := rfl
theorem INC_DE : Statement .INC_DE := rfl
theorem INC_D : Statement .INC_D := rfl
theorem DEC_D : Statement .DEC_D := rfl
theorem LD_D_d8 (d : Byte) : Statement (.LD_D_d8 d) := rfl
theorem RLA : Statement .RLA := rfl
theorem JR_e8 (e : Byte) : Statement (.JR_e8 e) := rfl
theorem ADD_HL_DE : Statement .ADD_HL_DE := rfl
theorem LD_A__DE : Statement .LD_A__DE := rfl
theorem DEC_DE : Statement .DEC_DE := rfl
theorem INC_E : Statement .INC_E := rfl
theorem DEC_E : Statement .DEC_E := rfl
theorem LD_E_d8 (d : Byte) : Statement (.LD_E_d8 d) := rfl
theorem RRA : Statement .RRA := rfl
theorem JR_NZ_e8 (e : Byte) : Statement (.JR_NZ_e8 e) := rfl
theorem LD_HL_d16 (d : Word) : Statement (.LD_HL_d16 d) := rfl
theorem LD__HLinc__A : Statement .LD__HLinc__A := rfl
theorem INC_HL : Statement .INC_HL := rfl
theorem INC_H : Statement .INC_H := rfl
theorem DEC_H : Statement .DEC_H := rfl
theorem LD_H_d8 (d : Byte) : Statement (.LD_H_d8 d) := rfl
theorem DAA : Statement .DAA := rfl
theorem JR_Z_e8 (e : Byte) : Statement (.JR_Z_e8 e) := rfl
theorem ADD_HL_HL : Statement .ADD_HL_HL := rfl
theorem LD_A__HLinc : Statement .LD_A__HLinc := rfl
theorem DEC_HL : Statement .DEC_HL := rfl
theorem INC_L : Statement .INC_L := rfl
theorem DEC_L : Statement .DEC_L := rfl
theorem LD_L_d8 (d : Byte) : Statement (.LD_L_d8 d) := rfl
theorem CPL : Statement .CPL := rfl
theorem JR_NC_e8 (e : Byte) : Statement (.JR_NC_e8 e) := rfl
theorem LD_SP_d16 (d : Word) : Statement (.LD_SP_d16 d) := rfl
theorem LD__HLdec__A : Statement .LD__HLdec__A := rfl
theorem INC_SP : Statement .INC_SP := rfl
theorem INC__HL : Statement .INC__HL := rfl
theorem DEC__HL : Statement .DEC__HL := rfl
theorem LD__HL__d8 (d : Byte) : Statement (.LD__HL__d8 d) := rfl
theorem SCF : Statement .SCF := rfl
theorem JR_C_e8 (e : Byte) : Statement (.JR_C_e8 e) := rfl
theorem ADD_HL_SP : Statement .ADD_HL_SP := rfl
theorem LD_A__HLdec : Statement .LD_A__HLdec := rfl
theorem DEC_SP : Statement .DEC_SP := rfl
theorem INC_A : Statement .INC_A := rfl
theorem DEC_A : Statement .DEC_A := rfl
theorem LD_A_d8 (d : Byte) : Statement (.LD_A_d8 d) := rfl
theorem CCF : Statement .CCF := rfl
theorem LD_B_B : Statement .LD_B_B := rfl
theorem LD_B_C : Statement .LD_B_C := rfl
theorem LD_B_D : Statement .LD_B_D := rfl
theorem LD_B_E : Statement .LD_B_E := rfl
theorem LD_B_H : Statement .LD_B_H := rfl
theorem LD_B_L : Statement .LD_B_L := rfl
theorem LD_B__HL : Statement .LD_B__HL := rfl
theorem LD_B_A : Statement .LD_B_A := rfl
theorem LD_C_B : Statement .LD_C_B := rfl
theorem LD_C_C : Statement .LD_C_C := rfl
theorem LD_C_D : Statement .LD_C_D := rfl
theorem LD_C_E : Statement .LD_C_E := rfl
theorem LD_C_H : Statement .LD_C_H := rfl
theorem LD_C_L : Statement .LD_C_L := rfl
theorem LD_C__HL : Statement .LD_C__HL := rfl
theorem LD_C_A : Statement .LD_C_A := rfl
theorem LD_D_B : Statement .LD_D_B := rfl
theorem LD_D_C : Statement .LD_D_C := rfl
theorem LD_D_D : Statement .LD_D_D := rfl
theorem LD_D_E : Statement .LD_D_E := rfl
theorem LD_D_H : Statement .LD_D_H := rfl
theorem LD_D_L : Statement .LD_D_L := rfl
theorem LD_D__HL : Statement .LD_D__HL := rfl
theorem LD_D_A : Statement .LD_D_A := rfl
theorem LD_E_B : Statement .LD_E_B := rfl
theorem LD_E_C : Statement .LD_E_C := rfl
theorem LD_E_D : Statement .LD_E_D := rfl
theorem LD_E_E : Statement .LD_E_E := rfl
theorem LD_E_H : Statement .LD_E_H := rfl
theorem LD_E_L : Statement .LD_E_L := rfl
theorem LD_E__HL : Statement .LD_E__HL := rfl
theorem LD_E_A : Statement .LD_E_A := rfl
theorem LD_H_B : Statement .LD_H_B := rfl
theorem LD_H_C : Statement .LD_H_C := rfl
theorem LD_H_D : Statement .LD_H_D := rfl
theorem LD_H_E : Statement .LD_H_E := rfl
theorem LD_H_H : Statement .LD_H_H := rfl
theorem LD_H_L : Statement .LD_H_L := rfl
theorem LD_H__HL : Statement .LD_H__HL := rfl
theorem LD_H_A : Statement .LD_H_A := rfl
theorem LD_L_B : Statement .LD_L_B := rfl
theorem LD_L_C : Statement .LD_L_C := rfl
theorem LD_L_D : Statement .LD_L_D := rfl
theorem LD_L_E : Statement .LD_L_E := rfl
theorem LD_L_H : Statement .LD_L_H := rfl
theorem LD_L_L : Statement .LD_L_L := rfl
theorem LD_L__HL : Statement .LD_L__HL := rfl
theorem LD_L_A : Statement .LD_L_A := rfl
theorem LD__HL__B : Statement .LD__HL__B := rfl
theorem LD__HL__C : Statement .LD__HL__C := rfl
theorem LD__HL__D : Statement .LD__HL__D := rfl
theorem LD__HL__E : Statement .LD__HL__E := rfl
theorem LD__HL__H : Statement .LD__HL__H := rfl
theorem LD__HL__L : Statement .LD__HL__L := rfl
theorem HALT : Statement .HALT := rfl
theorem LD__HL__A : Statement .LD__HL__A := rfl
theorem LD_A_B : Statement .LD_A_B := rfl
theorem LD_A_C : Statement .LD_A_C := rfl
theorem LD_A_D : Statement .LD_A_D := rfl
theorem LD_A_E : Statement .LD_A_E := rfl
theorem LD_A_H : Statement .LD_A_H := rfl
theorem LD_A_L : Statement .LD_A_L := rfl
theorem LD_A__HL : Statement .LD_A__HL := rfl
theorem LD_A_A : Statement .LD_A_A := rfl
theorem ADD_A_B : Statement .ADD_A_B := rfl
theorem ADD_A_C : Statement .ADD_A_C := rfl
theorem ADD_A_D : Statement .ADD_A_D := rfl
theorem ADD_A_E : Statement .ADD_A_E := rfl
theorem ADD_A_H : Statement .ADD_A_H := rfl
theorem ADD_A_L : Statement .ADD_A_L := rfl
theorem ADD_A__HL : Statement .ADD_A__HL := rfl
theorem ADD_A_A : Statement .ADD_A_A := rfl
theorem ADC_A_B : Statement .ADC_A_B := rfl
theorem ADC_A_C : Statement .ADC_A_C := rfl
theorem ADC_A_D : Statement .ADC_A_D := rfl
theorem ADC_A_E : Statement .ADC_A_E := rfl
theorem ADC_A_H : Statement .ADC_A_H := rfl
theorem ADC_A_L : Statement .ADC_A_L := rfl
theorem ADC_A__HL : Statement .ADC_A__HL := rfl
theorem ADC_A_A : Statement .ADC_A_A := rfl
theorem SUB_B : Statement .SUB_B := rfl
theorem SUB_C : Statement .SUB_C := rfl
theorem SUB_D : Statement .SUB_D := rfl
theorem SUB_E : Statement .SUB_E := rfl
theorem SUB_H : Statement .SUB_H := rfl
theorem SUB_L : Statement .SUB_L := rfl
theorem SUB__HL : Statement .SUB__HL := rfl
theorem SUB_A : Statement .SUB_A := rfl
theorem SBC_A_B : Statement .SBC_A_B := rfl
theorem SBC_A_C : Statement .SBC_A_C := rfl
theorem SBC_A_D : Statement .SBC_A_D := rfl
theorem SBC_A_E : Statement .SBC_A_E := rfl
theorem SBC_A_H : Statement .SBC_A_H := rfl
theorem SBC_A_L : Statement .SBC_A_L := rfl
theorem SBC_A__HL : Statement .SBC_A__HL := rfl
theorem SBC_A_A : Statement .SBC_A_A := rfl
theorem AND_B : Statement .AND_B := rfl
theorem AND_C : Statement .AND_C := rfl
theorem AND_D : Statement .AND_D := rfl
theorem AND_E : Statement .AND_E := rfl
theorem AND_H : Statement .AND_H := rfl
theorem AND_L : Statement .AND_L := rfl
theorem AND__HL : Statement .AND__HL := rfl
theorem AND_A : Statement .AND_A := rfl
theorem XOR_B : Statement .XOR_B := rfl
theorem XOR_C : Statement .XOR_C := rfl
theorem XOR_D : Statement .XOR_D := rfl
theorem XOR_E : Statement .XOR_E := rfl
theorem XOR_H : Statement .XOR_H := rfl
theorem XOR_L : Statement .XOR_L := rfl
theorem XOR__HL : Statement .XOR__HL := rfl
theorem XOR_A : Statement .XOR_A := rfl
theorem OR_B : Statement .OR_B := rfl
theorem OR_C : Statement .OR_C := rfl
theorem OR_D : Statement .OR_D := rfl
theorem OR_E : Statement .OR_E := rfl
theorem OR_H : Statement .OR_H := rfl
theorem OR_L : Statement .OR_L := rfl
theorem OR__HL : Statement .OR__HL := rfl
theorem OR_A : Statement .OR_A := rfl
theorem CP_B : Statement .CP_B := rfl
theorem CP_C : Statement .CP_C := rfl
theorem CP_D : Statement .CP_D := rfl
theorem CP_E : Statement .CP_E := rfl
theorem CP_H : Statement .CP_H := rfl
theorem CP_L : Statement .CP_L := rfl
theorem CP__HL : Statement .CP__HL := rfl
theorem CP_A : Statement .CP_A := rfl
theorem RET_NZ : Statement .RET_NZ := rfl
theorem POP_BC : Statement .POP_BC := rfl
theorem JP_NZ_a16 (a : Word) : Statement (.JP_NZ_a16 a) := rfl
theorem JP_a16 (a : Word) : Statement (.JP_a16 a) := rfl
theorem CALL_NZ_a16 (a : Word) : Statement (.CALL_NZ_a16 a) := rfl
theorem PUSH_BC : Statement .PUSH_BC := rfl
theorem ADD_A_d8 (d : Byte) : Statement (.ADD_A_d8 d) := rfl
theorem RST_0x00 : Statement .RST_0x00 := rfl
theorem RET_Z : Statement .RET_Z := rfl
theorem RET : Statement .RET := rfl
theorem JP_Z_a16 (a : Word) : Statement (.JP_Z_a16 a) := rfl
theorem PREFIX_CB (c : Byte) : Statement (.PREFIX_CB c) := rfl
theorem CALL_Z_a16 (a : Word) : Statement (.CALL_Z_a16 a) := rfl
theorem CALL_a16 (a : Word) : Statement (.CALL_a16 a) := rfl
theorem ADC_A_d8 (d : Byte) : Statement (.ADC_A_d8 d) := rfl
theorem RST_0x08 : Statement .RST_0x08 := rfl
theorem RET_NC : Statement .RET_NC := rfl
theorem POP_DE : Statement .POP_DE := rfl
theorem JP_NC_a16 (a : Word) : Statement (.JP_NC_a16 a) := rfl
theorem ILLEGAL_0xD3 : Statement .ILLEGAL_0xD3 := rfl
theorem CALL_NC_a16 (a : Word) : Statement (.CALL_NC_a16 a) := rfl
theorem PUSH_DE : Statement .PUSH_DE := rfl
theorem SUB_d8 (d : Byte) : Statement (.SUB_d8 d) := rfl
theorem RST_0x10 : Statement .RST_0x10 := rfl
theorem RET_C : Statement .RET_C := rfl
theorem RETI : Statement .RETI := rfl
theorem JP_C_a16 (a : Word) : Statement (.JP_C_a16 a) := rfl
theorem ILLEGAL_0xDB : Statement .ILLEGAL_0xDB := rfl
theorem CALL_C_a16 (a : Word) : Statement (.CALL_C_a16 a) := rfl
theorem ILLEGAL_0xDD : Statement .ILLEGAL_0xDD := rfl
theorem SBC_A_d8 (d : Byte) : Statement (.SBC_A_d8 d) := rfl
theorem RST_0x18 : Statement .RST_0x18 := rfl
theorem LDH__a8__A (a : Byte) : Statement (.LDH__a8__A a) := rfl
theorem POP_HL : Statement .POP_HL := rfl
theorem LD__C__A : Statement .LD__C__A := rfl
theorem ILLEGAL_0xE3 : Statement .ILLEGAL_0xE3 := rfl
theorem ILLEGAL_0xE4 : Statement .ILLEGAL_0xE4 := rfl
theorem PUSH_HL : Statement .PUSH_HL := rfl
theorem AND_d8 (d : Byte) : Statement (.AND_d8 d) := rfl
theorem RST_0x20 : Statement .RST_0x20 := rfl
theorem ADD_SP_e8 (e : Byte) : Statement (.ADD_SP_e8 e) := rfl
theorem JP_HL : Statement .JP_HL := rfl
theorem LD__a16__A (a : Word) : Statement (.LD__a16__A a) := rfl
theorem ILLEGAL_0xEB : Statement .ILLEGAL_0xEB := rfl
theorem ILLEGAL_0xEC : Statement .ILLEGAL_0xEC := rfl
theorem ILLEGAL_0xED : Statement .ILLEGAL_0xED := rfl
theorem XOR_d8 (d : Byte) : Statement (.XOR_d8 d) := rfl
theorem RST_0x28 : Statement .RST_0x28 := rfl
theorem LDH_A__a8 (a : Byte) : Statement (.LDH_A__a8 a) := rfl
theorem POP_AF : Statement .POP_AF := rfl
theorem LD_A__C : Statement .LD_A__C := rfl
theorem DI : Statement .DI := rfl
theorem ILLEGAL_0xF4 : Statement .ILLEGAL_0xF4 := rfl
theorem PUSH_AF : Statement .PUSH_AF := rfl
theorem OR_d8 (d : Byte) : Statement (.OR_d8 d) := rfl
theorem RST_0x30 : Statement .RST_0x30 := rfl
theorem LD_HL_SPplus_e8 (e : Byte) : Statement (.LD_HL_SPplus_e8 e) := rfl
theorem LD_SP_HL : Statement .LD_SP_HL := rfl
theorem LD_A__a16 (a : Word) : Statement (.LD_A__a16 a) := rfl
theorem EI : Statement .EI := rfl
theorem ILLEGAL_0xFC : Statement .ILLEGAL_0xFC := rfl
theorem ILLEGAL_0xFD : Statement .ILLEGAL_0xFD := rfl
theorem CP_d8 (d : Byte) : Statement (.CP_d8 d) := rfl
theorem RST_0x38 : Statement .RST_0x38 := rfl
theorem STOP (b : Byte) : Statement (.STOP b) := rfl
theorem RLC_B : Statement .RLC_B := rfl
theorem RLC_C : Statement .RLC_C := rfl
theorem RLC_D : Statement .RLC_D := rfl
theorem RLC_E : Statement .RLC_E := rfl
theorem RLC_H : Statement .RLC_H := rfl
theorem RLC_L : Statement .RLC_L := rfl
theorem RLC__HL : Statement .RLC__HL := rfl
theorem RLC_A : Statement .RLC_A := rfl
theorem RRC_B : Statement .RRC_B := rfl
theorem RRC_C : Statement .RRC_C := rfl
theorem RRC_D : Statement .RRC_D := rfl
theorem RRC_E : Statement .RRC_E := rfl
theorem RRC_H : Statement .RRC_H := rfl
theorem RRC_L : Statement .RRC_L := rfl
theorem RRC__HL : Statement .RRC__HL := rfl
theorem RRC_A : Statement .RRC_A := rfl
theorem RL_B : Statement .RL_B := rfl
theorem RL_C : Statement .RL_C := rfl
theorem RL_D : Statement .RL_D := rfl
theorem RL_E : Statement .RL_E := rfl
theorem RL_H : Statement .RL_H := rfl
theorem RL_L : Statement .RL_L := rfl
theorem RL__HL : Statement .RL__HL := rfl
theorem RL_A : Statement .RL_A := rfl
theorem RR_B : Statement .RR_B := rfl
theorem RR_C : Statement .RR_C := rfl
theorem RR_D : Statement .RR_D := rfl
theorem RR_E : Statement .RR_E := rfl
theorem RR_H : Statement .RR_H := rfl
theorem RR_L : Statement .RR_L := rfl
theorem RR__HL : Statement .RR__HL := rfl
theorem RR_A : Statement .RR_A := rfl
theorem SLA_B : Statement .SLA_B := rfl
theorem SLA_C : Statement .SLA_C := rfl
theorem SLA_D : Statement .SLA_D := rfl
theorem SLA_E : Statement .SLA_E := rfl
theorem SLA_H : Statement .SLA_H := rfl
theorem SLA_L : Statement .SLA_L := rfl
theorem SLA__HL : Statement .SLA__HL := rfl
theorem SLA_A : Statement .SLA_A := rfl
theorem SRA_B : Statement .SRA_B := rfl
theorem SRA_C : Statement .SRA_C := rfl
theorem SRA_D : Statement .SRA_D := rfl
theorem SRA_E : Statement .SRA_E := rfl
theorem SRA_H : Statement .SRA_H := rfl
theorem SRA_L : Statement .SRA_L := rfl
theorem SRA__HL : Statement .SRA__HL := rfl
theorem SRA_A : Statement .SRA_A := rfl
theorem SWAP_B : Statement .SWAP_B := rfl
theorem SWAP_C : Statement .SWAP_C := rfl
theorem SWAP_D : Statement .SWAP_D := rfl
theorem SWAP_E : Statement .SWAP_E := rfl
theorem SWAP_H : Statement .SWAP_H := rfl
theorem SWAP_L : Statement .SWAP_L := rfl
theorem SWAP__HL : Statement .SWAP__HL := rfl
theorem SWAP_A : Statement .SWAP_A := rfl
theorem SRL_B : Statement .SRL_B := rfl
theorem SRL_C : Statement .SRL_C := rfl
theorem SRL_D : Statement .SRL_D := rfl
theorem SRL_E : Statement .SRL_E := rfl
theorem SRL_H : Statement .SRL_H := rfl
theorem SRL_L : Statement .SRL_L := rfl
theorem SRL__HL : Statement .SRL__HL := rfl
theorem SRL_A : Statement .SRL_A := rfl
theorem BIT_0_B : Statement .BIT_0_B := rfl
theorem BIT_0_C : Statement .BIT_0_C := rfl
theorem BIT_0_D : Statement .BIT_0_D := rfl
theorem BIT_0_E : Statement .BIT_0_E := rfl
theorem BIT_0_H : Statement .BIT_0_H := rfl
theorem BIT_0_L : Statement .BIT_0_L := rfl
theorem BIT_0__HL : Statement .BIT_0__HL := rfl
theorem BIT_0_A : Statement .BIT_0_A := rfl
theorem BIT_1_B : Statement .BIT_1_B := rfl
theorem BIT_1_C : Statement .BIT_1_C := rfl
theorem BIT_1_D : Statement .BIT_1_D := rfl
theorem BIT_1_E : Statement .BIT_1_E := rfl
theorem BIT_1_H : Statement .BIT_1_H := rfl
theorem BIT_1_L : Statement .BIT_1_L := rfl
theorem BIT_1__HL : Statement .BIT_1__HL := rfl
theorem BIT_1_A : Statement .BIT_1_A := rfl
theorem BIT_2_B : Statement .BIT_2_B := rfl
theorem BIT_2_C : Statement .BIT_2_C := rfl
theorem BIT_2_D : Statement .BIT_2_D := rfl
theorem BIT_2_E : Statement .BIT_2_E := rfl
theorem BIT_2_H : Statement .BIT_2_H := rfl
theorem BIT_2_L : Statement .BIT_2_L := rfl
theorem BIT_2__HL : Statement .BIT_2__HL := rfl
theorem BIT_2_A : Statement .BIT_2_A := rfl
theorem BIT_3_B : Statement .BIT_3_B := rfl
theorem BIT_3_C : Statement .BIT_3_C := rfl
theorem BIT_3_D : Statement .BIT_3_D := rfl
theorem BIT_3_E : Statement .BIT_3_E := rfl
theorem BIT_3_H : Statement .BIT_3_H := rfl
theorem BIT_3_L : Statement .BIT_3_L := rfl
theorem BIT_3__HL : Statement .BIT_3__HL := rfl
theorem BIT_3_A : Statement .BIT_3_A := rfl
theorem BIT_4_B : Statement .BIT_4_B := rfl
theorem BIT_4_C : Statement .BIT_4_C := rfl
theorem BIT_4_D : Statement .BIT_4_D := rfl
theorem BIT_4_E : Statement .BIT_4_E := rfl
theorem BIT_4_H : Statement .BIT_4_H := rfl
theorem BIT_4_L : Statement .BIT_4_L := rfl
theorem BIT_4__HL : Statement .BIT_4__HL := rfl
theorem BIT_4_A : Statement .BIT_4_A := rfl
theorem BIT_5_B : Statement .BIT_5_B := rfl
theorem BIT_5_C : Statement .BIT_5_C := rfl
theorem BIT_5_D : Statement .BIT_5_D := rfl
theorem BIT_5_E : Statement .BIT_5_E := rfl
theorem BIT_5_H : Statement .BIT_5_H := rfl
theorem BIT_5_L : Statement .BIT_5_L := rfl
theorem BIT_5__HL : Statement .BIT_5__HL := rfl
theorem BIT_5_A : Statement .BIT_5_A := rfl
theorem BIT_6_B : Statement .BIT_6_B := rfl
theorem BIT_6_C : Statement .BIT_6_C := rfl
theorem BIT_6_D : Statement .BIT_6_D := rfl
theorem BIT_6_E : Statement .BIT_6_E := rfl
theorem BIT_6_H : Statement .BIT_6_H := rfl
theorem BIT_6_L : Statement .BIT_6_L := rfl
theorem BIT_6__HL : Statement .BIT_6__HL := rfl
theorem BIT_6_A : Statement .BIT_6_A := rfl
theorem BIT_7_B : Statement .BIT_7_B := rfl
theorem BIT_7_C : Statement .BIT_7_C := rfl
theorem BIT_7_D : Statement .BIT_7_D := rfl
theorem BIT_7_E : Statement .BIT_7_E := rfl
theorem BIT_7_H : Statement .BIT_7_H := rfl
theorem BIT_7_L : Statement .BIT_7_L := rfl
theorem BIT_7__HL : Statement .BIT_7__HL := rfl
theorem BIT_7_A : Statement .BIT_7_A := rfl
theorem RES_0_B : Statement .RES_0_B := rfl
theorem RES_0_C : Statement .RES_0_C := rfl
theorem RES_0_D : Statement .RES_0_D := rfl
theorem RES_0_E : Statement .RES_0_E := rfl
theorem RES_0_H : Statement .RES_0_H := rfl
theorem RES_0_L : Statement .RES_0_L := rfl
theorem RES_0__HL : Statement .RES_0__HL := rfl
theorem RES_0_A : Statement .RES_0_A := rfl
theorem RES_1_B : Statement .RES_1_B := rfl
theorem RES_1_C : Statement .RES_1_C := rfl
theorem RES_1_D : Statement .RES_1_D := rfl
theorem RES_1_E : Statement .RES_1_E := rfl
theorem RES_1_H : Statement .RES_1_H := rfl
theorem RES_1_L : Statement .RES_1_L := rfl
theorem RES_1__HL : Statement .RES_1__HL := rfl
theorem RES_1_A : Statement .RES_1_A := rfl
theorem RES_2_B : Statement .RES_2_B := rfl
theorem RES_2_C : Statement .RES_2_C := rfl
theorem RES_2_D : Statement .RES_2_D := rfl
theorem RES_2_E : Statement .RES_2_E := rfl
theorem RES_2_H : Statement .RES_2_H := rfl
theorem RES_2_L : Statement .RES_2_L := rfl
theorem RES_2__HL : Statement .RES_2__HL := rfl
theorem RES_2_A : Statement .RES_2_A := rfl
theorem RES_3_B : Statement .RES_3_B := rfl
theorem RES_3_C : Statement .RES_3_C := rfl
theorem RES_3_D : Statement .RES_3_D := rfl
theorem RES_3_E : Statement .RES_3_E := rfl
theorem RES_3_H : Statement .RES_3_H := rfl
theorem RES_3_L : Statement .RES_3_L := rfl
theorem RES_3__HL : Statement .RES_3__HL := rfl
theorem RES_3_A : Statement .RES_3_A := rfl
theorem RES_4_B : Statement .RES_4_B := rfl
theorem RES_4_C : Statement .RES_4_C := rfl
theorem RES_4_D : Statement .RES_4_D := rfl
theorem RES_4_E : Statement .RES_4_E := rfl
theorem RES_4_H : Statement .RES_4_H := rfl
theorem RES_4_L : Statement .RES_4_L := rfl
theorem RES_4__HL : Statement .RES_4__HL := rfl
theorem RES_4_A : Statement .RES_4_A := rfl
theorem RES_5_B : Statement .RES_5_B := rfl
theorem RES_5_C : Statement .RES_5_C := rfl
theorem RES_5_D : Statement .RES_5_D := rfl
theorem RES_5_E : Statement .RES_5_E := rfl
theorem RES_5_H : Statement .RES_5_H := rfl
theorem RES_5_L : Statement .RES_5_L := rfl
theorem RES_5__HL : Statement .RES_5__HL := rfl
theorem RES_5_A : Statement .RES_5_A := rfl
theorem RES_6_B : Statement .RES_6_B := rfl
theorem RES_6_C : Statement .RES_6_C := rfl
theorem RES_6_D : Statement .RES_6_D := rfl
theorem RES_6_E : Statement .RES_6_E := rfl
theorem RES_6_H : Statement .RES_6_H := rfl
theorem RES_6_L : Statement .RES_6_L := rfl
theorem RES_6__HL : Statement .RES_6__HL := rfl
theorem RES_6_A : Statement .RES_6_A := rfl
theorem RES_7_B : Statement .RES_7_B := rfl
theorem RES_7_C : Statement .RES_7_C := rfl
theorem RES_7_D : Statement .RES_7_D := rfl
theorem RES_7_E : Statement .RES_7_E := rfl
theorem RES_7_H : Statement .RES_7_H := rfl
theorem RES_7_L : Statement .RES_7_L := rfl
theorem RES_7__HL : Statement .RES_7__HL := rfl
theorem RES_7_A : Statement .RES_7_A := rfl
theorem SET_0_B : Statement .SET_0_B := rfl
theorem SET_0_C : Statement .SET_0_C := rfl
theorem SET_0_D : Statement .SET_0_D := rfl
theorem SET_0_E : Statement .SET_0_E := rfl
theorem SET_0_H : Statement .SET_0_H := rfl
theorem SET_0_L : Statement .SET_0_L := rfl
theorem SET_0__HL : Statement .SET_0__HL := rfl
theorem SET_0_A : Statement .SET_0_A := rfl
theorem SET_1_B : Statement .SET_1_B := rfl
theorem SET_1_C : Statement .SET_1_C := rfl
theorem SET_1_D : Statement .SET_1_D := rfl
theorem SET_1_E : Statement .SET_1_E := rfl
theorem SET_1_H : Statement .SET_1_H := rfl
theorem SET_1_L : Statement .SET_1_L := rfl
theorem SET_1__HL : Statement .SET_1__HL := rfl
theorem SET_1_A : Statement .SET_1_A := rfl
theorem SET_2_B : Statement .SET_2_B := rfl
theorem SET_2_C : Statement .SET_2_C := rfl
theorem SET_2_D : Statement .SET_2_D := rfl
theorem SET_2_E : Statement .SET_2_E := rfl
theorem SET_2_H : Statement .SET_2_H := rfl
theorem SET_2_L : Statement .SET_2_L := rfl
theorem SET_2__HL : Statement .SET_2__HL := rfl
theorem SET_2_A : Statement .SET_2_A := rfl
theorem SET_3_B : Statement .SET_3_B := rfl
theorem SET_3_C : Statement .SET_3_C := rfl
theorem SET_3_D : Statement .SET_3_D := rfl
theorem SET_3_E : Statement .SET_3_E := rfl
theorem SET_3_H : Statement .SET_3_H := rfl
theorem SET_3_L : Statement .SET_3_L := rfl
theorem SET_3__HL : Statement .SET_3__HL := rfl
theorem SET_3_A : Statement .SET_3_A := rfl
theorem SET_4_B : Statement .SET_4_B := rfl
theorem SET_4_C : Statement .SET_4_C := rfl
theorem SET_4_D : Statement .SET_4_D := rfl
theorem SET_4_E : Statement .SET_4_E := rfl
theorem SET_4_H : Statement .SET_4_H := rfl
theorem SET_4_L : Statement .SET_4_L := rfl
theorem SET_4__HL : Statement .SET_4__HL := rfl
theorem SET_4_A : Statement .SET_4_A := rfl
theorem SET_5_B : Statement .SET_5_B := rfl
theorem SET_5_C : Statement .SET_5_C := rfl
theorem SET_5_D : Statement .SET_5_D := rfl
theorem SET_5_E : Statement .SET_5_E := rfl
theorem SET_5_H : Statement .SET_5_H := rfl
theorem SET_5_L : Statement .SET_5_L := rfl
theorem SET_5__HL : Statement .SET_5__HL := rfl
theorem SET_5_A : Statement .SET_5_A := rfl
theorem SET_6_B : Statement .SET_6_B := rfl
theorem SET_6_C : Statement .SET_6_C := rfl
theorem SET_6_D : Statement .SET_6_D := rfl
theorem SET_6_E : Statement .SET_6_E := rfl
theorem SET_6_H : Statement .SET_6_H := rfl
theorem SET_6_L : Statement .SET_6_L := rfl
theorem SET_6__HL : Statement .SET_6__HL := rfl
theorem SET_6_A : Statement .SET_6_A := rfl
theorem SET_7_B : Statement .SET_7_B := rfl
theorem SET_7_C : Statement .SET_7_C := rfl
theorem SET_7_D : Statement .SET_7_D := rfl
theorem SET_7_E : Statement .SET_7_E := rfl
theorem SET_7_H : Statement .SET_7_H := rfl
theorem SET_7_L : Statement .SET_7_L := rfl
theorem SET_7__HL : Statement .SET_7__HL := rfl
theorem SET_7_A : Statement .SET_7_A := rfl

end Sys2Proof.Laws.EncodeLength
end

