-- ==== Sys2Proof/Laws/Places.lean ====
section
/-! SUPPORT. Reads and writes by the place an address lies at: the ROM region, the I/O page, the cartridge windows, plain
memory. -/

namespace Sys2Proof.Machine

/-! ### The ROM region and the I/O page -/

theorem locOf_rom (s : State) {a : Word} (h : a.toNat ≤ 0x7FFF) : ∃ i, locOf s a = .rom i := by
  unfold locOf
  dsimp only
  by_cases h1 : a.toNat ≤ 0x3FFF
  · rw [if_pos h1]; exact ⟨_, rfl⟩
  · rw [if_neg h1, if_pos h]; exact ⟨_, rfl⟩

/-- A write to the ROM region is a signal to the controller. -/
theorem memWrite_rom (s : State) {a : Word} (v : Byte) (h : a.toNat ≤ 0x7FFF) (hm : s.cart.mbc ≠ .mmm01) :
    memWrite s a v = .next (mbcWrite a v s) := by
  unfold memWrite
  rw [if_pos h]
  simp [romRefused, hm]

theorem memWrite_ioPage (s : State) {a : Word} (v : Byte) (h1 : 0xFF00 ≤ a.toNat) (h2 : a.toNat ≤ 0xFF7F) :
    memWrite s a v = ioWrite (loByte a) v s := by
  have hu : unusable a = false := by simp [unusable]; omega
  unfold memWrite
  rw [if_neg (by omega), hu, locOf_ioPage s h1 h2]
  rfl

theorem readByte_ioPage (s : State) {a : Word} (h1 : 0xFF00 ≤ a.toNat) (h2 : a.toNat ≤ 0xFF7F) :
    readByte s a = ioRead s (loByte a) := by
  rw [readByte, locOf_ioPage s h1 h2]
  rfl

/-- Wave RAM stands at 0xFF30..0xFF3F. -/
theorem ioSlot_wave {a : Word} (h1 : 0xFF30 ≤ a.toNat) (h2 : a.toNat ≤ 0xFF3F) :
    ioSlot (loByte a) = .wave (a.toNat - 0xFF30) := by
  have hl : (loByte a).toNat = a.toNat - 0xFF00 := by
    simp only [loByte, BitVec.extractLsb'_toNat]
    omega
  unfold ioSlot
  rw [if_pos (by omega), hl, Nat.sub_sub]

/-- On CGB, and for a register not marked CGB, an I/O access is that of the register. -/
theorem ioWrite_reg {s : State} {a : Byte} {r : IoReg} (v : Byte) (hs : ioSlot a = .reg r)
    (h : s.cgb = true ∨ r.storedOnDmg = none) : ioWrite a v s = ioRegWrite r v s := by
  unfold ioWrite
  rw [hs]
  dsimp only
  split
  · rcases h with h | h
    · rw [if_pos h]
    · simp_all
  · rfl

theorem ioRead_reg {s : State} {a : Byte} {r : IoReg} (hs : ioSlot a = .reg r)
    (h : s.cgb = true ∨ r.storedOnDmg = none) : ioRead s a = ioRegRead s r := by
  unfold ioRead
  rw [hs]
  dsimp only
  split
  · rcases h with h | h
    · rw [if_pos h]
    · simp_all
  · rfl

/-! ### The cartridge's windows -/

theorem locOf_ext (s : State) {a : Word} (h1 : 0xA000 ≤ a.toNat) (h2 : a.toNat ≤ 0xBFFF) :
    locOf s a = extLoc s (a.toNat - 0xA000) := by
  simp only [locOf]
  split_ifs <;> first | omega | rfl

/-- An access to 0xA000..0xBFFF is one at the place the controller maps there. -/
theorem memWrite_ext (s : State) {a : Word} (v : Byte) (h1 : 0xA000 ≤ a.toNat) (h2 : a.toNat ≤ 0xBFFF) :
    memWrite s a v = storeLoc (extLoc s (a.toNat - 0xA000)) v s := by
  have hu : unusable a = false := by simp [unusable]; omega
  unfold memWrite
  rw [if_neg (by omega), hu, locOf_ext s h1 h2]
  rfl

theorem readByte_ext (s : State) {a : Word} (h1 : 0xA000 ≤ a.toNat) (h2 : a.toNat ≤ 0xBFFF) :
    readByte s a = locRead s (extLoc s (a.toNat - 0xA000)) := by rw [readByte, locOf_ext s h1 h2]

/-- What the two halves of the ROM region read. -/
theorem readByte_romLow (s : State) {a : Word} (h : a.toNat ≤ 0x3FFF) :
    readByte s a = s.mem.rom.read (romLowBankEff s * 0x4000 + a.toNat) := by
  simp only [readByte, locOf, if_pos h, locRead]

theorem readByte_romHigh (s : State) {a : Word} (h1 : 0x4000 ≤ a.toNat) (h2 : a.toNat ≤ 0x7FFF) :
    readByte s a = s.mem.rom.read (romBankEff s * 0x4000 + (a.toNat - 0x4000)) := by
  simp only [readByte, locOf, if_neg (show ¬ a.toNat ≤ 0x3FFF by omega), if_pos h2, locRead]

/-! ### Reads that a change of one memory does not touch -/

theorem ioRegRead_mem (s : State) (m : Mems) (r : IoReg) : ioRegRead { s with mem := m } r = ioRegRead s r := by
  cases r <;> rfl

theorem ioRegRead_ie (s : State) (q : Byte) (r : IoReg) :
    ioRegRead { s with irq := { s.irq with ieByte := q } } r = ioRegRead s r := by
  cases r <;> rfl

theorem ioRead_mem (s : State) {m : Mems} (h : m.io = s.mem.io) (a : Byte) :
    ioRead { s with mem := m } a = ioRead s a := by
  unfold ioRead
  simp only [ioRegRead_mem, h]
  rfl

theorem ioRead_ie (s : State) (q : Byte) (a : Byte) :
    ioRead { s with irq := { s.irq with ieByte := q } } a = ioRead s a := by
  unfold ioRead
  simp only [ioRegRead_ie]
  rfl

/-- Two sets of memories that agree on a place give it the same byte. -/
theorem locRead_mem (s : State) {m : Mems} (l : Loc) (hio : m.io = s.mem.io) (hrom : m.rom = s.mem.rom)
    (hv : ∀ i, l = .vram i → m.vram.read i = s.mem.vram.read i)
    (he : ∀ i, l = .eram i → m.eram.read i = s.mem.eram.read i)
    (hk : ∀ i, l = .mbc2ram i → m.mbc2ram.read i = s.mem.mbc2ram.read i)
    (hw : ∀ i, l = .wram i → m.wram.read i = s.mem.wram.read i)
    (ho : ∀ i, l = .oam i → m.oam.read i = s.mem.oam.read i)
    (hh : ∀ i, l = .hram i → m.hram.read i = s.mem.hram.read i) :
    locRead { s with mem := m } l = locRead s l := by
  cases l
  case rom i => show m.rom.read i = _; rw [hrom]; rfl
  case vram i => exact hv i rfl
  case eram i => exact he i rfl
  case mbc2ram i => show 0xF0 ||| m.mbc2ram.read i = _; rw [hk i rfl]; rfl
  case wram i => exact hw i rfl
  case oam i => exact ho i rfl
  case hram i => exact hh i rfl
  case io a => exact ioRead_mem s hio a
  all_goals rfl

/-- A change of memory moves no address. -/
theorem locOf_mem (s : State) (m : Mems) (a : Word) : locOf { s with mem := m } a = locOf s a := rfl

/-! ### Plain memory -/

theorem memWrite_plain {s : State} {a : Word} {v : Byte} (h : PlainStore s a) :
    memWrite s a v = storeLoc (locOf s a) v s := by
  unfold memWrite
  by_cases h1 : a.toNat ≤ 0x7FFF
  · obtain ⟨i, hi⟩ := locOf_rom s h1
    have := h.1
    rw [hi] at this
    cases this
  · rw [if_neg h1, h.2]
    rfl

/-- A write to plain memory: the byte reads back, every other place reads as before, no address moves, and nothing
but memory and IE changes. -/
theorem memWrite_plain_spec {s : State} {a : Word} (v : Byte) (h : PlainStore s a) :
    ∃ t, memWrite s a v = .next t ∧ readByte t a = v ∧ SameBytesBut (locOf s a) s t ∧ SameDevices s t ∧
      t.cpu = s.cpu ∧ t.mem.rom = s.mem.rom ∧ ∀ b, locOf t b = locOf s b := by
  rw [memWrite_plain h]
  have hp := h.1
  cases hl : locOf s a <;> rw [hl] at hp <;> (try cases hp)
  case ie =>
    refine ⟨_, rfl, ?_, fun b hb => ?_, ⟨rfl, rfl, rfl, rfl, rfl, rfl, rfl, rfl, rfl, rfl, rfl, rfl, rfl⟩, rfl, rfl,
      fun _ => rfl⟩
    · rw [readByte]
      show locRead _ (locOf s a) = _
      rw [hl]
      rfl
    · rw [readByte, readByte]
      show locRead _ (locOf s b) = _
      cases hb' : locOf s b
      case ie => exact absurd hb' hb
      case io x => exact ioRead_ie s v x
      all_goals rfl
  all_goals
    refine ⟨_, rfl, ?_, fun b hb => ?_, ⟨rfl, rfl, rfl, rfl, rfl, rfl, rfl, rfl, rfl, rfl, rfl, rfl, rfl⟩, rfl, rfl,
      fun _ => rfl⟩
    · rw [readByte]
      show locRead _ (locOf s a) = _
      rw [hl]
      exact Memory.read_write_same _ _ _
    · rw [readByte, readByte]
      show locRead _ (locOf s b) = _
      refine locRead_mem s (locOf s b) rfl rfl ?_ ?_ ?_ ?_ ?_ ?_ <;> intro j hj <;>
        first
          | rfl
          | exact Memory.read_write_other _ _ (fun e => hb (by rw [hj, e]))

end Sys2Proof.Machine
end

