-- ==== Sys2Proof/Laws/Steps.lean ====
section
/-! SUPPORT. What every instruction and every phase of a step can do, said once. -/

namespace Sys2Proof.Machine

/-! ### Launching -/

/-- Every ROM-size byte that R9 decodes gives two banks or more. -/
theorem two_le_romBanks {t r a : Byte} {c : Cart} (h : Cart.ofHeader t r a = .ok c) : 2 ≤ c.romBanks := by
  have hr : ∀ r : Byte, ∀ n ∈ Cart.romBanksOfCode r, 2 ≤ n := by decide +kernel
  unfold Cart.ofHeader at h
  split at h <;> cases h
  exact hr r _ ‹_›

/-- A step of a state with a recorded refusal of its configuration answers that refusal. -/
theorem machineStep_of_refused {s : State} {e : ConfigError} (h : s.fault = some (.configuration e)) :
    machineStep s = .refused (.configuration e s) := by
  have hs : { s with fault := some (.configuration e) } = s := by rw [← h]
  simp [machineStep, h, stopWith, hs]

/-- A refused header is recorded at the launch. -/
theorem launch_of_error {t r a : Byte} {e : ConfigError} (h : Cart.ofHeader t r a = .error e) (m : Model) (b : Bool)
    (rom ram cells : Memory) : (State.launch m t r a b rom ram cells).fault = some (.configuration e) := by
  simp [State.launch, h]

/-- A header that is not refused starts either console at the default `INIT`. -/
theorem launch_of_ok {t r a : Byte} {c : Cart} (h : Cart.ofHeader t r a = .ok c) {m : Model} (hm : m ≠ .sgb) (b : Bool)
    (rom ram cells : Memory) :
    State.launch m t r a b rom ram cells = State.init m { c with mmm01Mapped := b } rom ram cells := by
  have hb : ¬ c.romBanks < 2 := by have := two_le_romBanks h; omega
  simp [State.launch, h, State.checked, configError, State.init, hm, hb]

/-! ### What survives an instruction -/

/-- A property that changes of the CPU and the cost keep, and that writes to memory keep. -/
structure Stable (P : State → Prop) : Prop where
  cpu : ∀ (s : State) (c : Cpu) (n : Nat), P s → P { s with cpu := c, cost := n }
  write : ∀ (s t : State) (a : Word) (v : Byte), P s → memWrite s a v = .next t → P t

theorem Stable.writeR8 {P : State → Prop} (h : Stable P) {r : R8} {v : Byte} {s t : State} (hs : P s)
    (hw : writeR8 r v s = .next t) : P t := by
  unfold Machine.writeR8 at hw
  split at hw
  · cases hw; exact h.cpu s _ s.cost hs
  · exact h.write _ _ _ _ hs hw

theorem Stable.push16 {P : State → Prop} (h : Stable P) {v : Word} {s t : State} (hs : P s)
    (hp : push16 v s = .next t) : P t := by
  obtain ⟨u, hu, ht, -⟩ := push16_eq_next hp
  have h1 : P u := h.write _ _ _ _ (h.cpu s _ s.cost hs) hu
  exact h.write _ _ _ _ (h.cpu u _ u.cost h1) ht

theorem Stable.indAfter {P : State → Prop} (h : Stable P) (m : R16Mem) {s : State} (hs : P s) :
    P (indAfter m s) := by
  cases m
  exacts [hs, hs, h.cpu s _ s.cost hs, h.cpu s _ s.cost hs]

theorem Stable.readThenWrite {P : State → Prop} (h : Stable P) {r : R8} {g : Byte → Byte} {k : Byte → State → State}
    {s t : State} (hk : ∀ v u, P u → P (k v u)) (hs : P s)
    (ht : andThen (readR8 r s) (fun v => andThen (Machine.writeR8 r (g v) s) fun u => .next (k v u)) = .next t) :
    P t := by
  obtain ⟨v, -, h2⟩ := andThen_eq_next.1 ht
  obtain ⟨u, hu, h3⟩ := andThen_eq_next.1 h2
  cases h3
  exact hk v u (h.writeR8 hs hu)

/-- Whatever changes of the CPU and writes to memory keep, every instruction keeps. -/
theorem Stable.form {P : State → Prop} (h : Stable P) {f : Form} {s t : State} (hs : P s)
    (ht : formMeaning f s = .next t) : P t := by
  have cs (c : Cpu) (n : Nat) : P { s with cpu := c, cost := n } := h.cpu s c n hs
  have store {a : Word} {k : State → State} (hk : ∀ u, P u → P (k u))
      (hx : andThen (memWrite s a s.cpu.a) (fun u => .next (k u)) = .next t) : P t := by
    obtain ⟨u, hu, h3⟩ := andThen_eq_next.1 hx
    cases h3
    exact hk u (h.write _ _ _ _ hs hu)
  have rmw {r : R8} {g : Byte → Byte} {k : Byte → State → State} (hk : ∀ v u, P u → P (k v u))
      (hx : andThen (readR8 r s) (fun v => andThen (Machine.writeR8 r (g v) s) fun u => .next (k v u)) = .next t) :
      P t := h.readThenWrite hk hs hx
  have callTo' {a : Word} {n : Nat} (hx : callTo a n s = .next t) : P t := by
    obtain ⟨u, hu, h3⟩ := andThen_eq_next.1 hx
    cases h3
    exact h.cpu u _ _ (h.push16 hs hu)
  have returnTo' {n : Nat} (hx : returnTo n s = .next t) : P t := by
    obtain ⟨x, hx, h3⟩ := andThen_eq_next.1 hx
    rw [pop16_eq_next hx] at h3
    cases h3
    exact cs _ _
  cases f
  case ldR8 d r =>
    obtain ⟨v, -, h2⟩ := andThen_eq_next.1 ht
    obtain ⟨u, hu, h3⟩ := andThen_eq_next.1 h2
    cases h3
    exact h.cpu u _ _ (h.writeR8 hs hu)
  case ldR8Imm d n =>
    obtain ⟨u, hu, h3⟩ := andThen_eq_next.1 ht
    cases h3
    exact h.cpu u _ _ (h.writeR8 hs hu)
  case ldAInd m =>
    obtain ⟨v, -, h2⟩ := andThen_eq_next.1 ht
    cases h2
    exact h.cpu _ _ _ (h.indAfter m (cs _ s.cost))
  case ldIndA m => exact store (fun u hu => h.cpu _ _ _ (h.indAfter m hu)) ht
  case ldMemA a => exact store (fun u hu => h.cpu u _ _ hu) ht
  case ldhStore a => exact store (fun u hu => h.cpu u _ _ hu) ht
  case ldHighCA => exact store (fun u hu => h.cpu u _ _ hu) ht
  case ldMemSp a =>
    obtain ⟨u, hu, h2⟩ := andThen_eq_next.1 ht
    obtain ⟨w, hw, h3⟩ := andThen_eq_next.1 h2
    cases h3
    exact h.cpu w _ _ (h.write _ _ _ _ (h.write _ _ _ _ hs hu) hw)
  case push r =>
    obtain ⟨u, hu, h3⟩ := andThen_eq_next.1 ht
    cases h3
    exact h.cpu u _ _ (h.push16 hs hu)
  case pop r =>
    obtain ⟨x, hx, h3⟩ := andThen_eq_next.1 ht
    rw [pop16_eq_next hx] at h3
    cases h3
    exact cs _ _
  case incR8 r => exact rmw (fun v u hu => h.cpu u _ _ hu) ht
  case decR8 r => exact rmw (fun v u hu => h.cpu u _ _ hu) ht
  case shift op r => exact rmw (fun v u hu => h.cpu u _ _ hu) ht
  case res n r => exact rmw (fun v u hu => h.cpu u _ _ hu) ht
  case set n r => exact rmw (fun v u hu => h.cpu u _ _ hu) ht
  case call a => exact callTo' ht
  case rst n => exact callTo' ht
  case callCc cc a =>
    simp only [formMeaning, callIf] at ht
    split at ht
    · exact callTo' ht
    · cases ht; exact cs _ _
  case ret => exact returnTo' ht
  case retCc cc =>
    simp only [formMeaning, returnIf] at ht
    split at ht
    · exact returnTo' ht
    · cases ht; exact cs _ _
  case reti =>
    obtain ⟨u, hu, h2⟩ := andThen_eq_next.1 ht
    obtain ⟨x, hx, h3⟩ := andThen_eq_next.1 hu
    rw [pop16_eq_next hx] at h3
    cases h3
    cases h2
    exact cs _ _
  case jpCc cc a =>
    simp only [formMeaning, jumpIf] at ht
    split at ht <;> (cases ht; exact cs _ _)
  case jrCc cc e =>
    simp only [formMeaning, jumpRelIf] at ht
    split at ht <;> (cases ht; exact cs _ _)
  case stop b =>
    simp only [formMeaning, speedSwitch] at ht
    split at ht
    · simp at ht
    · split at ht
      · cases ht; exact cs _ _
      · simp at ht
  case prefixCb b =>
    simp only [formMeaning, prefixCb] at ht
    split at ht
    · exact rmw (fun v u hu => h.cpu u _ _ hu) ht
    · obtain ⟨v, -, h2⟩ := andThen_eq_next.1 ht
      cases h2
      exact cs _ _
    · exact rmw (fun v u hu => h.cpu u _ _ hu) ht
    · exact rmw (fun v u hu => h.cpu u _ _ hu) ht
  case illegal op => simp [formMeaning, illegalOpcode] at ht
  all_goals first
    | (cases ht; exact cs _ _)
    | (obtain ⟨v, -, h2⟩ := andThen_eq_next.1 ht; cases h2; exact cs _ _)

theorem Stable.exec {P : State → Prop} (h : Stable P) {i : Instr} {s t : State} (hs : P s)
    (ht : exec i s = .next t) : P t := h.form hs (exec_eq_formMeaning i s ▸ ht)

/-- The invariant outside the CPU and the timer survives every instruction. -/
theorem bodyInv_stable : Stable BodyInv :=
  ⟨fun _ _ _ h => h.of_eq rfl rfl rfl rfl rfl rfl rfl rfl rfl, fun _ _ _ _ h hw => memWrite_keeps h hw⟩

/-! ### The CPU's control state -/

/-- What most instructions keep: the deferred queue, a zero low nibble of F, the model, and the speed state while the
machine is not a CGB. -/
structure Kept (s t : State) : Prop where
  pending : t.cpu.pending = s.cpu.pending
  low : s.cpu.f &&& 0x0F = 0 → t.cpu.f &&& 0x0F = 0
  model : t.model = s.model
  speed : s.cgb = false → t.cpu.doubleSpeed = s.cpu.doubleSpeed
  armed : s.cgb = false → t.cpu.key1Armed = s.cpu.key1Armed

theorem Kept.refl (s : State) : Kept s s := ⟨rfl, id, rfl, fun _ => rfl, fun _ => rfl⟩

theorem Kept.trans {s t u : State} (h : Kept s t) (k : Kept t u) : Kept s u := by
  have hc (hs : s.cgb = false) : t.cgb = false := by simpa [State.cgb, h.model] using hs
  exact ⟨k.pending.trans h.pending, fun hl => k.low (h.low hl), k.model.trans h.model,
    fun hs => (k.speed (hc hs)).trans (h.speed hs), fun hs => (k.armed (hc hs)).trans (h.armed hs)⟩

theorem WriteFrame.kept {s t : State} (h : WriteFrame s t) : Kept s t :=
  ⟨by rw [h.cpu], by rw [h.cpu]; exact id, h.model, fun _ => by rw [h.cpu], h.armed⟩

theorem kept_writeR8 {r : R8} {v : Byte} {s t : State} (hw : writeR8 r v s = .next t) : Kept s t := by
  unfold writeR8 at hw
  split at hw
  · cases hw
    exact ⟨by simp, by simp, rfl, fun _ => by simp, fun _ => by simp⟩
  · exact (memWrite_frame hw).kept

theorem kept_push16 {v : Word} {s t : State} (hp : push16 v s = .next t) : Kept s t := by
  obtain ⟨u, -, -, hf⟩ := push16_eq_next hp
  exact Kept.trans (t := s.setSp (s.cpu.sp - 2)) ⟨rfl, id, rfl, fun _ => rfl, fun _ => rfl⟩ hf.kept

theorem kept_indAfter (m : R16Mem) (s : State) : Kept s (indAfter m s) := by
  cases m <;> exact ⟨rfl, id, rfl, fun _ => rfl, fun _ => rfl⟩

theorem kept_putFlags (s : State) (x : FlagSet) (n : Nat) : Kept s ((s.putFlags x).setCost n) :=
  ⟨rfl, fun _ => flagByte_low _ _ _ _, rfl, fun _ => rfl, fun _ => rfl⟩

theorem kept_setCost (s : State) (n : Nat) : Kept s (s.setCost n) := ⟨rfl, id, rfl, fun _ => rfl, fun _ => rfl⟩

/-- Every instruction but EI and DI keeps it; those two append one entry that waits two steps. -/
theorem form_kept {f : Form} {s t : State} (ht : formMeaning f s = .next t) :
    Kept s t ∨ (∃ e, t = (s.defer e).setCost 4) := by
  have rmw {r : R8} {g : Byte → Byte} {k : Byte → State → State} (hk : ∀ v u, Kept u (k v u))
      (hx : andThen (readR8 r s) (fun v => andThen (writeR8 r (g v) s) fun u => .next (k v u)) = .next t) :
      Kept s t := by
    obtain ⟨v, -, h2⟩ := andThen_eq_next.1 hx
    obtain ⟨u, hu, h3⟩ := andThen_eq_next.1 h2
    cases h3
    exact (kept_writeR8 hu).trans (hk v u)
  have store {a : Word} {k : State → State} (hk : ∀ u, Kept u (k u))
      (hx : andThen (memWrite s a s.cpu.a) (fun u => .next (k u)) = .next t) : Kept s t := by
    obtain ⟨u, hu, h3⟩ := andThen_eq_next.1 hx
    cases h3
    exact (memWrite_frame hu).kept.trans (hk u)
  have callTo' {a : Word} {n : Nat} (hx : callTo a n s = .next t) : Kept s t := by
    obtain ⟨u, hu, h3⟩ := andThen_eq_next.1 hx
    cases h3
    exact (kept_push16 hu).trans ⟨rfl, id, rfl, fun _ => rfl, fun _ => rfl⟩
  have returnTo' {n : Nat} (hx : returnTo n s = .next t) : Kept s t := by
    obtain ⟨x, hx, h3⟩ := andThen_eq_next.1 hx
    rw [pop16_eq_next hx] at h3
    cases h3
    exact ⟨rfl, id, rfl, fun _ => rfl, fun _ => rfl⟩
  cases f
  case ei => cases ht; exact .inr ⟨_, rfl⟩
  case di => cases ht; exact .inr ⟨_, rfl⟩
  all_goals left
  case ldR8 d r =>
    obtain ⟨v, -, h2⟩ := andThen_eq_next.1 ht
    obtain ⟨u, hu, h3⟩ := andThen_eq_next.1 h2
    cases h3
    exact (kept_writeR8 hu).trans (kept_setCost _ _)
  case ldR8Imm d n =>
    obtain ⟨u, hu, h3⟩ := andThen_eq_next.1 ht
    cases h3
    exact (kept_writeR8 hu).trans (kept_setCost _ _)
  case ldAInd m =>
    obtain ⟨v, -, h2⟩ := andThen_eq_next.1 ht
    cases h2
    exact Kept.trans (t := s.setReg .a v) ⟨rfl, id, rfl, fun _ => rfl, fun _ => rfl⟩
      ((kept_indAfter m _).trans (kept_setCost _ _))
  case ldIndA m => exact store (fun u => (kept_indAfter m u).trans (kept_setCost _ _)) ht
  case ldMemA a => exact store (fun u => kept_setCost _ _) ht
  case ldhStore a => exact store (fun u => kept_setCost _ _) ht
  case ldHighCA => exact store (fun u => kept_setCost _ _) ht
  case ldMemSp a =>
    obtain ⟨u, hu, h2⟩ := andThen_eq_next.1 ht
    obtain ⟨w, hw, h3⟩ := andThen_eq_next.1 h2
    cases h3
    exact ((memWrite_frame hu).kept.trans (memWrite_frame hw).kept).trans (kept_setCost _ _)
  case push r =>
    obtain ⟨u, hu, h3⟩ := andThen_eq_next.1 ht
    cases h3
    exact (kept_push16 hu).trans (kept_setCost _ _)
  case pop r =>
    obtain ⟨x, hx, h3⟩ := andThen_eq_next.1 ht
    rw [pop16_eq_next hx] at h3
    cases h3
    have mask (v : Byte) : v &&& 0xF0 &&& 0x0F = 0 := by revert v; decide +kernel
    cases r
    case af => exact ⟨rfl, fun _ => mask _, rfl, fun _ => rfl, fun _ => rfl⟩
    all_goals exact ⟨rfl, id, rfl, fun _ => rfl, fun _ => rfl⟩
  case ldR16 r d => cases ht; cases r <;> exact ⟨rfl, id, rfl, fun _ => rfl, fun _ => rfl⟩
  case incR16 r => cases ht; cases r <;> exact ⟨rfl, id, rfl, fun _ => rfl, fun _ => rfl⟩
  case decR16 r => cases ht; cases r <;> exact ⟨rfl, id, rfl, fun _ => rfl, fun _ => rfl⟩
  case incR8 r => exact rmw (fun v u => kept_putFlags u _ _) ht
  case decR8 r => exact rmw (fun v u => kept_putFlags u _ _) ht
  case shift op r => exact rmw (fun v u => kept_putFlags u _ _) ht
  case res n r => exact rmw (fun v u => kept_setCost _ _) ht
  case set n r => exact rmw (fun v u => kept_setCost _ _) ht
  case call a => exact callTo' ht
  case rst n => exact callTo' ht
  case callCc cc a =>
    simp only [formMeaning, callIf] at ht
    split at ht
    · exact callTo' ht
    · cases ht; exact kept_setCost _ _
  case ret => exact returnTo' ht
  case retCc cc =>
    simp only [formMeaning, returnIf] at ht
    split at ht
    · exact returnTo' ht
    · cases ht; exact kept_setCost _ _
  case reti =>
    obtain ⟨u, hu, h2⟩ := andThen_eq_next.1 ht
    obtain ⟨x, hx, h3⟩ := andThen_eq_next.1 hu
    rw [pop16_eq_next hx] at h3
    cases h3
    cases h2
    exact ⟨rfl, id, rfl, fun _ => rfl, fun _ => rfl⟩
  case jpCc cc a =>
    simp only [formMeaning, jumpIf] at ht
    split at ht <;> (cases ht; exact ⟨rfl, id, rfl, fun _ => rfl, fun _ => rfl⟩)
  case jrCc cc e =>
    simp only [formMeaning, jumpRelIf] at ht
    split at ht <;> (cases ht; exact ⟨rfl, id, rfl, fun _ => rfl, fun _ => rfl⟩)
  case stop b =>
    simp only [formMeaning, speedSwitch] at ht
    split at ht
    · simp at ht
    · split at ht
      · rename_i hc
        cases ht
        have hno (h : s.cgb = false) : False := by simp [h] at hc
        exact ⟨rfl, id, rfl, fun h => (hno h).elim, fun h => (hno h).elim⟩
      · simp at ht
  case prefixCb b =>
    simp only [formMeaning, prefixCb] at ht
    split at ht
    · exact rmw (fun v u => kept_putFlags u _ _) ht
    · obtain ⟨v, -, h2⟩ := andThen_eq_next.1 ht
      cases h2
      exact kept_putFlags _ _ _
    · exact rmw (fun v u => kept_setCost _ _) ht
    · exact rmw (fun v u => kept_setCost _ _) ht
  case illegal op => simp [formMeaning, illegalOpcode] at ht
  all_goals first
    | (cases ht; exact ⟨rfl, id, rfl, fun _ => rfl, fun _ => rfl⟩)
    | (cases ht; exact ⟨rfl, fun _ => flagByte_low _ _ _ _, rfl, fun _ => rfl, fun _ => rfl⟩)
    | (obtain ⟨v, -, h2⟩ := andThen_eq_next.1 ht; cases h2; exact ⟨rfl, id, rfl, fun _ => rfl, fun _ => rfl⟩)
    | (obtain ⟨v, -, h2⟩ := andThen_eq_next.1 ht; cases h2
       exact ⟨rfl, fun _ => flagByte_low _ _ _ _, rfl, fun _ => rfl, fun _ => rfl⟩)

/-! ### Fetch -/

theorem fetch8_eq_next {s : State} {x : Byte × State} (h : fetch8 s = .next x) :
    x = (readByte s s.cpu.pc, s.setPc (s.cpu.pc + 1)) := by
  obtain ⟨v, hv, h2⟩ := andThen_eq_next.1 h
  rw [memRead_eq_next hv] at h2
  cases h2
  rfl

theorem fetch8_mapped {s : State} (h : Mapped s) :
    fetch8 s = .next (readByte s s.cpu.pc, s.setPc (s.cpu.pc + 1)) := by
  simp only [fetch8, memRead_mapped h, andThen_next]

theorem fetchBytes_pc {n : Nat} {s : State} {x : List Byte × State} (h : fetchBytes n s = .next x) :
    ∃ p, x.2 = s.setPc p := by
  induction n generalizing s x with
  | zero => cases h; exact ⟨s.cpu.pc, rfl⟩
  | succ n ih =>
    obtain ⟨y, hy, h2⟩ := andThen_eq_next.1 h
    obtain ⟨z, hz, h3⟩ := andThen_eq_next.1 h2
    cases h3
    rw [fetch8_eq_next hy] at hz
    obtain ⟨p, hp⟩ := ih hz
    exact ⟨p, hp⟩

/-- Fetching changes PC only. -/
theorem fetchInstr_pc {s : State} {x : Instr × State} (h : fetchInstr s = .next x) : ∃ p, x.2 = s.setPc p := by
  obtain ⟨y, hy, h2⟩ := andThen_eq_next.1 h
  obtain ⟨z, hz, h3⟩ := andThen_eq_next.1 h2
  rw [fetch8_eq_next hy] at hz
  obtain ⟨p, hp⟩ := fetchBytes_pc hz
  split at h3
  · cases h3; exact ⟨p, hp⟩
  · simp at h3

/-! ### Advances -/

theorem advance_eq_next {fast : Bool} {c : Nat} {s t : State} (h : advance fast c s = .next t) :
    ∃ u, ppuAdvance (dotsOf fast c) (timerAdvance c s) = .next u ∧ t = soundAdvance (dotsOf fast c) u := by
  obtain ⟨u, hu, h2⟩ := andThen_eq_next.1 h
  cases h2
  exact ⟨u, hu, rfl⟩

/-- What an advance of the three devices never changes. -/
structure AdvanceFrame (s t : State) : Prop where
  model : t.model = s.model
  cart : t.cart = s.cart
  cpu : t.cpu = s.cpu
  ieByte : t.irq.ieByte = s.irq.ieByte
  rom : t.mem.rom = s.mem.rom
  mbc : t.mbc = s.mbc
  serial : t.serial = s.serial
  fault : t.fault = s.fault

/-- An advance keeps the invariant, and leaves the timer's accumulator below its period. -/
theorem advance_keeps {fast : Bool} {c : Nat} {s t : State} (hb : BodyInv s) (h : advance fast c s = .next t) :
    BodyInv t ∧ TimerInv t ∧ AdvanceFrame s t := by
  obtain ⟨u, hu, rfl⟩ := advance_eq_next h
  obtain ⟨k1, k2⟩ := timerAdvance_keeps (c := c) hb
  obtain ⟨l1, l2⟩ := ppuAdvance_keeps k1 hu
  obtain ⟨d, acc, x, q, e, -⟩ := timerAdvance_eq c s
  obtain ⟨v, o, e', -⟩ := soundAdvance_eq (dotsOf fast c) u
  refine ⟨soundAdvance_keeps l1, ?_, ?_, ?_, ?_, ?_, ?_, ?_, ?_, ?_⟩ <;> rw [e']
  · unfold TimerInv at k2 ⊢
    rw [← l2.timer] at k2
    exact k2
  · exact l2.model.trans (by rw [e])
  · exact l2.cart.trans (by rw [e])
  · exact l2.cpu.trans (by rw [e])
  · exact l2.ieByte.trans (by rw [e])
  · exact l2.rom.trans (by rw [e])
  · exact l2.mbc.trans (by rw [e])
  · exact l2.serial.trans (by rw [e])
  · exact l2.fault.trans (by rw [e])

/-! ### Deferred effects, halt exit and the interrupt check -/

theorem countDown_short {q : List Deferred} (hl : q.length ≤ 1) (hd : ∀ d ∈ q, d.remaining = 1) :
    ((countDown q).filter fun d => decide (d.remaining ≠ 0)) = [] := by
  simp only [countDown, List.filter_eq_nil_iff, List.mem_map]
  rintro _ ⟨d, hm, rfl⟩
  simp [hd d hm]

/-- The interrupt check does nothing, or takes one interrupt and lets its 20 ticks pass. -/
theorem dispatch_eq_next {s t : State} (h : dispatch s = .next t) :
    (t = s ∧ (s.cpu.ime = true → s.requested = 0)) ∨
    (s.cpu.ime = true ∧ s.requested ≠ 0 ∧ ∃ n u, takeInterrupt n s = .next u ∧
      advance u.cpu.doubleSpeed 20 u = .next t) := by
  have none_iff : ∀ m : Byte, lowestRequest (m &&& 0x1F) = none → m &&& 0x1F = 0 := by decide +kernel
  have some_ne : ∀ m : Byte, m = 0 → lowestRequest m = none := by rintro m rfl; rfl
  unfold dispatch at h
  split at h
  · rename_i hi
    split at h
    · rename_i n hn
      obtain ⟨u, hu, h2⟩ := andThen_eq_next.1 h
      refine .inr ⟨hi, fun h0 => ?_, n, u, hu, h2⟩
      rw [some_ne _ h0] at hn
      cases hn
    · cases h
      exact .inl ⟨rfl, fun _ => none_iff _ ‹_›⟩
  · cases h
    exact .inl ⟨rfl, fun hi => absurd hi ‹_›⟩

/-- Taking an interrupt: IME and the request cleared, the return address pushed, PC at the vector. -/
theorem takeInterrupt_eq_next {n : Nat} {s t : State} (h : takeInterrupt n s = .next t) :
    ∃ u, push16 s.cpu.pc { s.setIme false with irq := { s.irq with ifByte := clearBitOf s.irq.ifByte n } } = .next u ∧
      t = u.setPc (interruptVector n) := by
  obtain ⟨u, hu, h2⟩ := andThen_eq_next.1 h
  cases h2
  exact ⟨u, hu, rfl⟩

end Sys2Proof.Machine
end

