-- ==== Sys2Proof/Tests/Slice0.lean ====
section
/-! SUPPORT. Tests: well-formedness, decoding (words written out from the encodings of spec/opcode_table.json and of
files 40 to 46), single steps (vectors of spec/95_test_vectors.md), and for every obligation with hypotheses states
and operands that meet them. Every expected value is the spec's. -/

namespace Sys2Proof.Tests

open Sys2Proof.Machine

set_option maxRecDepth 20000

/-! ### Well-formedness -/

/-- R215: a second byte of STOP other than 0x00 is refused. -/
theorem test_stop_with_a_second_byte_is_ill_formed : (Instr.STOP 0x01).wellFormed = false := by decide

/-- R217: the prefix by itself is refused. -/
theorem test_bare_prefix_is_ill_formed : (Instr.PREFIX_CB 0x00).wellFormed = false := by decide

/-- R215: STOP with its second byte 0x00 is accepted, as is any instruction without such a check. -/
theorem test_well_formed : (Instr.STOP 0x00).wellFormed = true ∧ (Instr.JP_a16 0xFFFF).wellFormed = true ∧
    Instr.ILLEGAL_0xD3.wellFormed = true := by decide

/-! ### Decoding -/

/-- The instruction that bytes are, if they are one and nothing is left over. -/
def reads (bytes : List Byte) : Option Instr :=
  match decode bytes with
  | .ok (i, []) => some i
  | _ => none

/-- Line 0x of the map, the words of the `encoding` column (R212). -/
theorem test_decode_primary_line_0x : List.map reads
    [[0b00000000], [0b00000001, 0x9C, 0x81], [0b00000010], [0b00000011], [0b00000100], [0b00000101],
     [0b00000110, 0x9C], [0b00000111], [0b00001000, 0x9C, 0x81], [0b00001001], [0b00001010], [0b00001011],
     [0b00001100], [0b00001101], [0b00001110, 0x9C], [0b00001111]] =
    [some .NOP, some (.LD_BC_d16 0x819C), some .LD__BC__A, some .INC_BC, some .INC_B, some .DEC_B,
     some (.LD_B_d8 0x9C), some .RLCA, some (.LD__a16__SP 0x819C), some .ADD_HL_BC, some .LD_A__BC, some .DEC_BC,
     some .INC_C, some .DEC_C, some (.LD_C_d8 0x9C), some .RRCA] := by decide

/-- Line 1x of the map, the words of the `encoding` column (R212). -/
theorem test_decode_primary_line_1x : List.map reads
    [[0b00010001, 0x9C, 0x81], [0b00010010], [0b00010011], [0b00010100], [0b00010101], [0b00010110, 0x9C],
     [0b00010111], [0b00011000, 0x9C], [0b00011001], [0b00011010], [0b00011011], [0b00011100], [0b00011101],
     [0b00011110, 0x9C], [0b00011111], [0b00010000, 0b00000000]] =
    [some (.LD_DE_d16 0x819C), some .LD__DE__A, some .INC_DE, some .INC_D, some .DEC_D, some (.LD_D_d8 0x9C),
     some .RLA, some (.JR_e8 0x9C), some .ADD_HL_DE, some .LD_A__DE, some .DEC_DE, some .INC_E, some .DEC_E,
     some (.LD_E_d8 0x9C), some .RRA, some (.STOP 0x00)] := by decide

/-- Line 2x of the map, the words of the `encoding` column (R212). -/
theorem test_decode_primary_line_2x : List.map reads
    [[0b00100000, 0x9C], [0b00100001, 0x9C, 0x81], [0b00100010], [0b00100011], [0b00100100], [0b00100101],
     [0b00100110, 0x9C], [0b00100111], [0b00101000, 0x9C], [0b00101001], [0b00101010], [0b00101011], [0b00101100],
     [0b00101101], [0b00101110, 0x9C], [0b00101111]] =
    [some (.JR_NZ_e8 0x9C), some (.LD_HL_d16 0x819C), some .LD__HLinc__A, some .INC_HL, some .INC_H, some .DEC_H,
     some (.LD_H_d8 0x9C), some .DAA, some (.JR_Z_e8 0x9C), some .ADD_HL_HL, some .LD_A__HLinc, some .DEC_HL,
     some .INC_L, some .DEC_L, some (.LD_L_d8 0x9C), some .CPL] := by decide

/-- Line 3x of the map, the words of the `encoding` column (R212). -/
theorem test_decode_primary_line_3x : List.map reads
    [[0b00110000, 0x9C], [0b00110001, 0x9C, 0x81], [0b00110010], [0b00110011], [0b00110100], [0b00110101],
     [0b00110110, 0x9C], [0b00110111], [0b00111000, 0x9C], [0b00111001], [0b00111010], [0b00111011], [0b00111100],
     [0b00111101], [0b00111110, 0x9C], [0b00111111]] =
    [some (.JR_NC_e8 0x9C), some (.LD_SP_d16 0x819C), some .LD__HLdec__A, some .INC_SP, some .INC__HL,
     some .DEC__HL, some (.LD__HL__d8 0x9C), some .SCF, some (.JR_C_e8 0x9C), some .ADD_HL_SP, some .LD_A__HLdec,
     some .DEC_SP, some .INC_A, some .DEC_A, some (.LD_A_d8 0x9C), some .CCF] := by decide

/-- Line 4x of the map, the words of the `encoding` column (R212). -/
theorem test_decode_primary_line_4x : List.map reads
    [[0b01000000], [0b01000001], [0b01000010], [0b01000011], [0b01000100], [0b01000101], [0b01000110],
     [0b01000111], [0b01001000], [0b01001001], [0b01001010], [0b01001011], [0b01001100], [0b01001101],
     [0b01001110], [0b01001111]] =
    [some .LD_B_B, some .LD_B_C, some .LD_B_D, some .LD_B_E, some .LD_B_H, some .LD_B_L, some .LD_B__HL,
     some .LD_B_A, some .LD_C_B, some .LD_C_C, some .LD_C_D, some .LD_C_E, some .LD_C_H, some .LD_C_L,
     some .LD_C__HL, some .LD_C_A] := by decide

/-- Line 5x of the map, the words of the `encoding` column (R212). -/
theorem test_decode_primary_line_5x : List.map reads
    [[0b01010000], [0b01010001], [0b01010010], [0b01010011], [0b01010100], [0b01010101], [0b01010110],
     [0b01010111], [0b01011000], [0b01011001], [0b01011010], [0b01011011], [0b01011100], [0b01011101],
     [0b01011110], [0b01011111]] =
    [some .LD_D_B, some .LD_D_C, some .LD_D_D, some .LD_D_E, some .LD_D_H, some .LD_D_L, some .LD_D__HL,
     some .LD_D_A, some .LD_E_B, some .LD_E_C, some .LD_E_D, some .LD_E_E, some .LD_E_H, some .LD_E_L,
     some .LD_E__HL, some .LD_E_A] := by decide

/-- Line 6x of the map, the words of the `encoding` column (R212). -/
theorem test_decode_primary_line_6x : List.map reads
    [[0b01100000], [0b01100001], [0b01100010], [0b01100011], [0b01100100], [0b01100101], [0b01100110],
     [0b01100111], [0b01101000], [0b01101001], [0b01101010], [0b01101011], [0b01101100], [0b01101101],
     [0b01101110], [0b01101111]] =
    [some .LD_H_B, some .LD_H_C, some .LD_H_D, some .LD_H_E, some .LD_H_H, some .LD_H_L, some .LD_H__HL,
     some .LD_H_A, some .LD_L_B, some .LD_L_C, some .LD_L_D, some .LD_L_E, some .LD_L_H, some .LD_L_L,
     some .LD_L__HL, some .LD_L_A] := by decide

/-- Line 7x of the map, the words of the `encoding` column (R212). -/
theorem test_decode_primary_line_7x : List.map reads
    [[0b01110000], [0b01110001], [0b01110010], [0b01110011], [0b01110100], [0b01110101], [0b01110110],
     [0b01110111], [0b01111000], [0b01111001], [0b01111010], [0b01111011], [0b01111100], [0b01111101],
     [0b01111110], [0b01111111]] =
    [some .LD__HL__B, some .LD__HL__C, some .LD__HL__D, some .LD__HL__E, some .LD__HL__H, some .LD__HL__L,
     some .HALT, some .LD__HL__A, some .LD_A_B, some .LD_A_C, some .LD_A_D, some .LD_A_E, some .LD_A_H,
     some .LD_A_L, some .LD_A__HL, some .LD_A_A] := by decide

/-- Line 8x of the map, the words of the `encoding` column (R212). -/
theorem test_decode_primary_line_8x : List.map reads
    [[0b10000000], [0b10000001], [0b10000010], [0b10000011], [0b10000100], [0b10000101], [0b10000110],
     [0b10000111], [0b10001000], [0b10001001], [0b10001010], [0b10001011], [0b10001100], [0b10001101],
     [0b10001110], [0b10001111]] =
    [some .ADD_A_B, some .ADD_A_C, some .ADD_A_D, some .ADD_A_E, some .ADD_A_H, some .ADD_A_L, some .ADD_A__HL,
     some .ADD_A_A, some .ADC_A_B, some .ADC_A_C, some .ADC_A_D, some .ADC_A_E, some .ADC_A_H, some .ADC_A_L,
     some .ADC_A__HL, some .ADC_A_A] := by decide

/-- Line 9x of the map, the words of the `encoding` column (R212). -/
theorem test_decode_primary_line_9x : List.map reads
    [[0b10010000], [0b10010001], [0b10010010], [0b10010011], [0b10010100], [0b10010101], [0b10010110],
     [0b10010111], [0b10011000], [0b10011001], [0b10011010], [0b10011011], [0b10011100], [0b10011101],
     [0b10011110], [0b10011111]] =
    [some .SUB_B, some .SUB_C, some .SUB_D, some .SUB_E, some .SUB_H, some .SUB_L, some .SUB__HL, some .SUB_A,
     some .SBC_A_B, some .SBC_A_C, some .SBC_A_D, some .SBC_A_E, some .SBC_A_H, some .SBC_A_L, some .SBC_A__HL,
     some .SBC_A_A] := by decide

/-- Line Ax of the map, the words of the `encoding` column (R212). -/
theorem test_decode_primary_line_Ax : List.map reads
    [[0b10100000], [0b10100001], [0b10100010], [0b10100011], [0b10100100], [0b10100101], [0b10100110],
     [0b10100111], [0b10101000], [0b10101001], [0b10101010], [0b10101011], [0b10101100], [0b10101101],
     [0b10101110], [0b10101111]] =
    [some .AND_B, some .AND_C, some .AND_D, some .AND_E, some .AND_H, some .AND_L, some .AND__HL, some .AND_A,
     some .XOR_B, some .XOR_C, some .XOR_D, some .XOR_E, some .XOR_H, some .XOR_L, some .XOR__HL, some .XOR_A] := by decide

/-- Line Bx of the map, the words of the `encoding` column (R212). -/
theorem test_decode_primary_line_Bx : List.map reads
    [[0b10110000], [0b10110001], [0b10110010], [0b10110011], [0b10110100], [0b10110101], [0b10110110],
     [0b10110111], [0b10111000], [0b10111001], [0b10111010], [0b10111011], [0b10111100], [0b10111101],
     [0b10111110], [0b10111111]] =
    [some .OR_B, some .OR_C, some .OR_D, some .OR_E, some .OR_H, some .OR_L, some .OR__HL, some .OR_A, some .CP_B,
     some .CP_C, some .CP_D, some .CP_E, some .CP_H, some .CP_L, some .CP__HL, some .CP_A] := by decide

/-- Line Cx of the map, the words of the `encoding` column (R212). -/
theorem test_decode_primary_line_Cx : List.map reads
    [[0b11000000], [0b11000001], [0b11000010, 0x9C, 0x81], [0b11000011, 0x9C, 0x81], [0b11000100, 0x9C, 0x81],
     [0b11000101], [0b11000110, 0x9C], [0b11000111], [0b11001000], [0b11001001], [0b11001010, 0x9C, 0x81],
     [0b11001100, 0x9C, 0x81], [0b11001101, 0x9C, 0x81], [0b11001110, 0x9C], [0b11001111]] =
    [some .RET_NZ, some .POP_BC, some (.JP_NZ_a16 0x819C), some (.JP_a16 0x819C), some (.CALL_NZ_a16 0x819C),
     some .PUSH_BC, some (.ADD_A_d8 0x9C), some .RST_0x00, some .RET_Z, some .RET, some (.JP_Z_a16 0x819C),
     some (.CALL_Z_a16 0x819C), some (.CALL_a16 0x819C), some (.ADC_A_d8 0x9C), some .RST_0x08] := by decide

/-- Line Dx of the map, the words of the `encoding` column (R212). -/
theorem test_decode_primary_line_Dx : List.map reads
    [[0b11010000], [0b11010001], [0b11010010, 0x9C, 0x81], [0b11010011], [0b11010100, 0x9C, 0x81], [0b11010101],
     [0b11010110, 0x9C], [0b11010111], [0b11011000], [0b11011001], [0b11011010, 0x9C, 0x81], [0b11011011],
     [0b11011100, 0x9C, 0x81], [0b11011101], [0b11011110, 0x9C], [0b11011111]] =
    [some .RET_NC, some .POP_DE, some (.JP_NC_a16 0x819C), some .ILLEGAL_0xD3, some (.CALL_NC_a16 0x819C),
     some .PUSH_DE, some (.SUB_d8 0x9C), some .RST_0x10, some .RET_C, some .RETI, some (.JP_C_a16 0x819C),
     some .ILLEGAL_0xDB, some (.CALL_C_a16 0x819C), some .ILLEGAL_0xDD, some (.SBC_A_d8 0x9C), some .RST_0x18] := by decide

/-- Line Ex of the map, the words of the `encoding` column (R212). -/
theorem test_decode_primary_line_Ex : List.map reads
    [[0b11100000, 0x9C], [0b11100001], [0b11100010], [0b11100011], [0b11100100], [0b11100101], [0b11100110, 0x9C],
     [0b11100111], [0b11101000, 0x9C], [0b11101001], [0b11101010, 0x9C, 0x81], [0b11101011], [0b11101100],
     [0b11101101], [0b11101110, 0x9C], [0b11101111]] =
    [some (.LDH__a8__A 0x9C), some .POP_HL, some .LD__C__A, some .ILLEGAL_0xE3, some .ILLEGAL_0xE4, some .PUSH_HL,
     some (.AND_d8 0x9C), some .RST_0x20, some (.ADD_SP_e8 0x9C), some .JP_HL, some (.LD__a16__A 0x819C),
     some .ILLEGAL_0xEB, some .ILLEGAL_0xEC, some .ILLEGAL_0xED, some (.XOR_d8 0x9C), some .RST_0x28] := by decide

/-- Line Fx of the map, the words of the `encoding` column (R212). -/
theorem test_decode_primary_line_Fx : List.map reads
    [[0b11110000, 0x9C], [0b11110001], [0b11110010], [0b11110011], [0b11110100], [0b11110101], [0b11110110, 0x9C],
     [0b11110111], [0b11111000, 0x9C], [0b11111001], [0b11111010, 0x9C, 0x81], [0b11111011], [0b11111100],
     [0b11111101], [0b11111110, 0x9C], [0b11111111]] =
    [some (.LDH_A__a8 0x9C), some .POP_AF, some .LD_A__C, some .DI, some .ILLEGAL_0xF4, some .PUSH_AF,
     some (.OR_d8 0x9C), some .RST_0x30, some (.LD_HL_SPplus_e8 0x9C), some .LD_SP_HL, some (.LD_A__a16 0x819C),
     some .EI, some .ILLEGAL_0xFC, some .ILLEGAL_0xFD, some (.CP_d8 0x9C), some .RST_0x38] := by decide

/-- Line 0x of the CB map, the words of the `encoding` column (R213). -/
theorem test_decode_cb_line_0x : List.map reads
    [[0b11001011, 0b00000000], [0b11001011, 0b00000001], [0b11001011, 0b00000010], [0b11001011, 0b00000011],
     [0b11001011, 0b00000100], [0b11001011, 0b00000101], [0b11001011, 0b00000110], [0b11001011, 0b00000111],
     [0b11001011, 0b00001000], [0b11001011, 0b00001001], [0b11001011, 0b00001010], [0b11001011, 0b00001011],
     [0b11001011, 0b00001100], [0b11001011, 0b00001101], [0b11001011, 0b00001110], [0b11001011, 0b00001111]] =
    [some .RLC_B, some .RLC_C, some .RLC_D, some .RLC_E, some .RLC_H, some .RLC_L, some .RLC__HL, some .RLC_A,
     some .RRC_B, some .RRC_C, some .RRC_D, some .RRC_E, some .RRC_H, some .RRC_L, some .RRC__HL, some .RRC_A] := by decide

/-- Line 1x of the CB map, the words of the `encoding` column (R213). -/
theorem test_decode_cb_line_1x : List.map reads
    [[0b11001011, 0b00010000], [0b11001011, 0b00010001], [0b11001011, 0b00010010], [0b11001011, 0b00010011],
     [0b11001011, 0b00010100], [0b11001011, 0b00010101], [0b11001011, 0b00010110], [0b11001011, 0b00010111],
     [0b11001011, 0b00011000], [0b11001011, 0b00011001], [0b11001011, 0b00011010], [0b11001011, 0b00011011],
     [0b11001011, 0b00011100], [0b11001011, 0b00011101], [0b11001011, 0b00011110], [0b11001011, 0b00011111]] =
    [some .RL_B, some .RL_C, some .RL_D, some .RL_E, some .RL_H, some .RL_L, some .RL__HL, some .RL_A, some .RR_B,
     some .RR_C, some .RR_D, some .RR_E, some .RR_H, some .RR_L, some .RR__HL, some .RR_A] := by decide

/-- Line 2x of the CB map, the words of the `encoding` column (R213). -/
theorem test_decode_cb_line_2x : List.map reads
    [[0b11001011, 0b00100000], [0b11001011, 0b00100001], [0b11001011, 0b00100010], [0b11001011, 0b00100011],
     [0b11001011, 0b00100100], [0b11001011, 0b00100101], [0b11001011, 0b00100110], [0b11001011, 0b00100111],
     [0b11001011, 0b00101000], [0b11001011, 0b00101001], [0b11001011, 0b00101010], [0b11001011, 0b00101011],
     [0b11001011, 0b00101100], [0b11001011, 0b00101101], [0b11001011, 0b00101110], [0b11001011, 0b00101111]] =
    [some .SLA_B, some .SLA_C, some .SLA_D, some .SLA_E, some .SLA_H, some .SLA_L, some .SLA__HL, some .SLA_A,
     some .SRA_B, some .SRA_C, some .SRA_D, some .SRA_E, some .SRA_H, some .SRA_L, some .SRA__HL, some .SRA_A] := by decide

/-- Line 3x of the CB map, the words of the `encoding` column (R213). -/
theorem test_decode_cb_line_3x : List.map reads
    [[0b11001011, 0b00110000], [0b11001011, 0b00110001], [0b11001011, 0b00110010], [0b11001011, 0b00110011],
     [0b11001011, 0b00110100], [0b11001011, 0b00110101], [0b11001011, 0b00110110], [0b11001011, 0b00110111],
     [0b11001011, 0b00111000], [0b11001011, 0b00111001], [0b11001011, 0b00111010], [0b11001011, 0b00111011],
     [0b11001011, 0b00111100], [0b11001011, 0b00111101], [0b11001011, 0b00111110], [0b11001011, 0b00111111]] =
    [some .SWAP_B, some .SWAP_C, some .SWAP_D, some .SWAP_E, some .SWAP_H, some .SWAP_L, some .SWAP__HL,
     some .SWAP_A, some .SRL_B, some .SRL_C, some .SRL_D, some .SRL_E, some .SRL_H, some .SRL_L, some .SRL__HL,
     some .SRL_A] := by decide

/-- Line 4x of the CB map, the words of the `encoding` column (R213). -/
theorem test_decode_cb_line_4x : List.map reads
    [[0b11001011, 0b01000000], [0b11001011, 0b01000001], [0b11001011, 0b01000010], [0b11001011, 0b01000011],
     [0b11001011, 0b01000100], [0b11001011, 0b01000101], [0b11001011, 0b01000110], [0b11001011, 0b01000111],
     [0b11001011, 0b01001000], [0b11001011, 0b01001001], [0b11001011, 0b01001010], [0b11001011, 0b01001011],
     [0b11001011, 0b01001100], [0b11001011, 0b01001101], [0b11001011, 0b01001110], [0b11001011, 0b01001111]] =
    [some .BIT_0_B, some .BIT_0_C, some .BIT_0_D, some .BIT_0_E, some .BIT_0_H, some .BIT_0_L, some .BIT_0__HL,
     some .BIT_0_A, some .BIT_1_B, some .BIT_1_C, some .BIT_1_D, some .BIT_1_E, some .BIT_1_H, some .BIT_1_L,
     some .BIT_1__HL, some .BIT_1_A] := by decide

/-- Line 5x of the CB map, the words of the `encoding` column (R213). -/
theorem test_decode_cb_line_5x : List.map reads
    [[0b11001011, 0b01010000], [0b11001011, 0b01010001], [0b11001011, 0b01010010], [0b11001011, 0b01010011],
     [0b11001011, 0b01010100], [0b11001011, 0b01010101], [0b11001011, 0b01010110], [0b11001011, 0b01010111],
     [0b11001011, 0b01011000], [0b11001011, 0b01011001], [0b11001011, 0b01011010], [0b11001011, 0b01011011],
     [0b11001011, 0b01011100], [0b11001011, 0b01011101], [0b11001011, 0b01011110], [0b11001011, 0b01011111]] =
    [some .BIT_2_B, some .BIT_2_C, some .BIT_2_D, some .BIT_2_E, some .BIT_2_H, some .BIT_2_L, some .BIT_2__HL,
     some .BIT_2_A, some .BIT_3_B, some .BIT_3_C, some .BIT_3_D, some .BIT_3_E, some .BIT_3_H, some .BIT_3_L,
     some .BIT_3__HL, some .BIT_3_A] := by decide

/-- Line 6x of the CB map, the words of the `encoding` column (R213). -/
theorem test_decode_cb_line_6x : List.map reads
    [[0b11001011, 0b01100000], [0b11001011, 0b01100001], [0b11001011, 0b01100010], [0b11001011, 0b01100011],
     [0b11001011, 0b01100100], [0b11001011, 0b01100101], [0b11001011, 0b01100110], [0b11001011, 0b01100111],
     [0b11001011, 0b01101000], [0b11001011, 0b01101001], [0b11001011, 0b01101010], [0b11001011, 0b01101011],
     [0b11001011, 0b01101100], [0b11001011, 0b01101101], [0b11001011, 0b01101110], [0b11001011, 0b01101111]] =
    [some .BIT_4_B, some .BIT_4_C, some .BIT_4_D, some .BIT_4_E, some .BIT_4_H, some .BIT_4_L, some .BIT_4__HL,
     some .BIT_4_A, some .BIT_5_B, some .BIT_5_C, some .BIT_5_D, some .BIT_5_E, some .BIT_5_H, some .BIT_5_L,
     some .BIT_5__HL, some .BIT_5_A] := by decide

/-- Line 7x of the CB map, the words of the `encoding` column (R213). -/
theorem test_decode_cb_line_7x : List.map reads
    [[0b11001011, 0b01110000], [0b11001011, 0b01110001], [0b11001011, 0b01110010], [0b11001011, 0b01110011],
     [0b11001011, 0b01110100], [0b11001011, 0b01110101], [0b11001011, 0b01110110], [0b11001011, 0b01110111],
     [0b11001011, 0b01111000], [0b11001011, 0b01111001], [0b11001011, 0b01111010], [0b11001011, 0b01111011],
     [0b11001011, 0b01111100], [0b11001011, 0b01111101], [0b11001011, 0b01111110], [0b11001011, 0b01111111]] =
    [some .BIT_6_B, some .BIT_6_C, some .BIT_6_D, some .BIT_6_E, some .BIT_6_H, some .BIT_6_L, some .BIT_6__HL,
     some .BIT_6_A, some .BIT_7_B, some .BIT_7_C, some .BIT_7_D, some .BIT_7_E, some .BIT_7_H, some .BIT_7_L,
     some .BIT_7__HL, some .BIT_7_A] := by decide

/-- Line 8x of the CB map, the words of the `encoding` column (R213). -/
theorem test_decode_cb_line_8x : List.map reads
    [[0b11001011, 0b10000000], [0b11001011, 0b10000001], [0b11001011, 0b10000010], [0b11001011, 0b10000011],
     [0b11001011, 0b10000100], [0b11001011, 0b10000101], [0b11001011, 0b10000110], [0b11001011, 0b10000111],
     [0b11001011, 0b10001000], [0b11001011, 0b10001001], [0b11001011, 0b10001010], [0b11001011, 0b10001011],
     [0b11001011, 0b10001100], [0b11001011, 0b10001101], [0b11001011, 0b10001110], [0b11001011, 0b10001111]] =
    [some .RES_0_B, some .RES_0_C, some .RES_0_D, some .RES_0_E, some .RES_0_H, some .RES_0_L, some .RES_0__HL,
     some .RES_0_A, some .RES_1_B, some .RES_1_C, some .RES_1_D, some .RES_1_E, some .RES_1_H, some .RES_1_L,
     some .RES_1__HL, some .RES_1_A] := by decide

/-- Line 9x of the CB map, the words of the `encoding` column (R213). -/
theorem test_decode_cb_line_9x : List.map reads
    [[0b11001011, 0b10010000], [0b11001011, 0b10010001], [0b11001011, 0b10010010], [0b11001011, 0b10010011],
     [0b11001011, 0b10010100], [0b11001011, 0b10010101], [0b11001011, 0b10010110], [0b11001011, 0b10010111],
     [0b11001011, 0b10011000], [0b11001011, 0b10011001], [0b11001011, 0b10011010], [0b11001011, 0b10011011],
     [0b11001011, 0b10011100], [0b11001011, 0b10011101], [0b11001011, 0b10011110], [0b11001011, 0b10011111]] =
    [some .RES_2_B, some .RES_2_C, some .RES_2_D, some .RES_2_E, some .RES_2_H, some .RES_2_L, some .RES_2__HL,
     some .RES_2_A, some .RES_3_B, some .RES_3_C, some .RES_3_D, some .RES_3_E, some .RES_3_H, some .RES_3_L,
     some .RES_3__HL, some .RES_3_A] := by decide

/-- Line Ax of the CB map, the words of the `encoding` column (R213). -/
theorem test_decode_cb_line_Ax : List.map reads
    [[0b11001011, 0b10100000], [0b11001011, 0b10100001], [0b11001011, 0b10100010], [0b11001011, 0b10100011],
     [0b11001011, 0b10100100], [0b11001011, 0b10100101], [0b11001011, 0b10100110], [0b11001011, 0b10100111],
     [0b11001011, 0b10101000], [0b11001011, 0b10101001], [0b11001011, 0b10101010], [0b11001011, 0b10101011],
     [0b11001011, 0b10101100], [0b11001011, 0b10101101], [0b11001011, 0b10101110], [0b11001011, 0b10101111]] =
    [some .RES_4_B, some .RES_4_C, some .RES_4_D, some .RES_4_E, some .RES_4_H, some .RES_4_L, some .RES_4__HL,
     some .RES_4_A, some .RES_5_B, some .RES_5_C, some .RES_5_D, some .RES_5_E, some .RES_5_H, some .RES_5_L,
     some .RES_5__HL, some .RES_5_A] := by decide

/-- Line Bx of the CB map, the words of the `encoding` column (R213). -/
theorem test_decode_cb_line_Bx : List.map reads
    [[0b11001011, 0b10110000], [0b11001011, 0b10110001], [0b11001011, 0b10110010], [0b11001011, 0b10110011],
     [0b11001011, 0b10110100], [0b11001011, 0b10110101], [0b11001011, 0b10110110], [0b11001011, 0b10110111],
     [0b11001011, 0b10111000], [0b11001011, 0b10111001], [0b11001011, 0b10111010], [0b11001011, 0b10111011],
     [0b11001011, 0b10111100], [0b11001011, 0b10111101], [0b11001011, 0b10111110], [0b11001011, 0b10111111]] =
    [some .RES_6_B, some .RES_6_C, some .RES_6_D, some .RES_6_E, some .RES_6_H, some .RES_6_L, some .RES_6__HL,
     some .RES_6_A, some .RES_7_B, some .RES_7_C, some .RES_7_D, some .RES_7_E, some .RES_7_H, some .RES_7_L,
     some .RES_7__HL, some .RES_7_A] := by decide

/-- Line Cx of the CB map, the words of the `encoding` column (R213). -/
theorem test_decode_cb_line_Cx : List.map reads
    [[0b11001011, 0b11000000], [0b11001011, 0b11000001], [0b11001011, 0b11000010], [0b11001011, 0b11000011],
     [0b11001011, 0b11000100], [0b11001011, 0b11000101], [0b11001011, 0b11000110], [0b11001011, 0b11000111],
     [0b11001011, 0b11001000], [0b11001011, 0b11001001], [0b11001011, 0b11001010], [0b11001011, 0b11001011],
     [0b11001011, 0b11001100], [0b11001011, 0b11001101], [0b11001011, 0b11001110], [0b11001011, 0b11001111]] =
    [some .SET_0_B, some .SET_0_C, some .SET_0_D, some .SET_0_E, some .SET_0_H, some .SET_0_L, some .SET_0__HL,
     some .SET_0_A, some .SET_1_B, some .SET_1_C, some .SET_1_D, some .SET_1_E, some .SET_1_H, some .SET_1_L,
     some .SET_1__HL, some .SET_1_A] := by decide

/-- Line Dx of the CB map, the words of the `encoding` column (R213). -/
theorem test_decode_cb_line_Dx : List.map reads
    [[0b11001011, 0b11010000], [0b11001011, 0b11010001], [0b11001011, 0b11010010], [0b11001011, 0b11010011],
     [0b11001011, 0b11010100], [0b11001011, 0b11010101], [0b11001011, 0b11010110], [0b11001011, 0b11010111],
     [0b11001011, 0b11011000], [0b11001011, 0b11011001], [0b11001011, 0b11011010], [0b11001011, 0b11011011],
     [0b11001011, 0b11011100], [0b11001011, 0b11011101], [0b11001011, 0b11011110], [0b11001011, 0b11011111]] =
    [some .SET_2_B, some .SET_2_C, some .SET_2_D, some .SET_2_E, some .SET_2_H, some .SET_2_L, some .SET_2__HL,
     some .SET_2_A, some .SET_3_B, some .SET_3_C, some .SET_3_D, some .SET_3_E, some .SET_3_H, some .SET_3_L,
     some .SET_3__HL, some .SET_3_A] := by decide

/-- Line Ex of the CB map, the words of the `encoding` column (R213). -/
theorem test_decode_cb_line_Ex : List.map reads
    [[0b11001011, 0b11100000], [0b11001011, 0b11100001], [0b11001011, 0b11100010], [0b11001011, 0b11100011],
     [0b11001011, 0b11100100], [0b11001011, 0b11100101], [0b11001011, 0b11100110], [0b11001011, 0b11100111],
     [0b11001011, 0b11101000], [0b11001011, 0b11101001], [0b11001011, 0b11101010], [0b11001011, 0b11101011],
     [0b11001011, 0b11101100], [0b11001011, 0b11101101], [0b11001011, 0b11101110], [0b11001011, 0b11101111]] =
    [some .SET_4_B, some .SET_4_C, some .SET_4_D, some .SET_4_E, some .SET_4_H, some .SET_4_L, some .SET_4__HL,
     some .SET_4_A, some .SET_5_B, some .SET_5_C, some .SET_5_D, some .SET_5_E, some .SET_5_H, some .SET_5_L,
     some .SET_5__HL, some .SET_5_A] := by decide

/-- Line Fx of the CB map, the words of the `encoding` column (R213). -/
theorem test_decode_cb_line_Fx : List.map reads
    [[0b11001011, 0b11110000], [0b11001011, 0b11110001], [0b11001011, 0b11110010], [0b11001011, 0b11110011],
     [0b11001011, 0b11110100], [0b11001011, 0b11110101], [0b11001011, 0b11110110], [0b11001011, 0b11110111],
     [0b11001011, 0b11111000], [0b11001011, 0b11111001], [0b11001011, 0b11111010], [0b11001011, 0b11111011],
     [0b11001011, 0b11111100], [0b11001011, 0b11111101], [0b11001011, 0b11111110], [0b11001011, 0b11111111]] =
    [some .SET_6_B, some .SET_6_C, some .SET_6_D, some .SET_6_E, some .SET_6_H, some .SET_6_L, some .SET_6__HL,
     some .SET_6_A, some .SET_7_B, some .SET_7_C, some .SET_7_D, some .SET_7_E, some .SET_7_H, some .SET_7_L,
     some .SET_7__HL, some .SET_7_A] := by decide

/-- R212, R213, R217: the table's prefix row with a zero operand byte is the CB row 0x00; a lone prefix, or STOP with
another second byte, is no instruction. -/
theorem test_decode_prefix_and_stop : reads [0b11001011, 0x00] = some .RLC_B ∧ decode [0b11001011] = .error .truncated ∧
    decode [0b00010000, 0b00000001] = .error (.stopSecondByte 0x01) := by decide

/-- The numbering of a table word's bits (log entry 3): LD A,H, JP 0x0150, and BIT 7,H and STOP both as the table's
`match` writes them and with the first byte in the low bits. -/
theorem test_table_words : decodeTableWord 8 0x7C = some .LD_A_H ∧ decodeTableWord 24 0x0150C3 = some (.JP_a16 0x0150) ∧
    decodeTableWord 16 0xCB7C = some .BIT_7_H ∧ decodeTableWord 16 0x7CCB = some .BIT_7_H ∧
    decodeTableWord 16 0x1000 = some (.STOP 0x00) ∧ decodeTableWord 16 0x0010 = some (.STOP 0x00) := by decide
/-! ### Single steps -/

/-- The default INIT of each model (R800), nothing in ROM. -/
def onDmg : State := State.reset

/-- The same on CGB. -/
def onCgb : State := State.init .cgb Cart.plain [] [] []

/-- A state with A, B and F as given. -/
def abf (a b f : Byte) : State := { onDmg with cpu := { onDmg.cpu with a := a, b := b, f := f } }

/-- A state with SP as given. -/
def atSp (v : Word) : State := onDmg.setSp v

/-- Bytes placed where an address lies, in ROM too. -/
def holding (addr : Word) (bytes : List Byte) (s : State) : State := putBytes bytes addr s

/-- A cartridge with a controller, ROM banks and RAM banks. -/
def cartOf (k : MbcKind) (rom ram : Nat) : Cart := { Cart.plain with mbc := k, romBanks := rom, ramBanks := ram }

/-- A DMG state with such a cartridge. -/
def withCart (k : MbcKind) (rom ram : Nat) : State := State.init .dmg (cartOf k rom ram) [] [] []

/-- What is looked at in a next state. -/
def seen {α β : Type} (o : Out α) (f : α → β) : Option β :=
  match o with
  | .next t => some (f t)
  | _ => none

/-- How a run stopped, by the recorded kind. -/
def stopOf {α : Type} (o : Out α) : Option StopKind :=
  match o with
  | .fault (.illegalOpcode _ d) => d.fault
  | .fault (.stopNotArmed d) => d.fault
  | .fault (.unimplementedIOWrite _ d) => d.fault
  | .refused (.mmm01 _ d) => d.fault
  | .refused (.configuration _ d) => d.fault
  | _ => none

/-- A and F after an instruction on A, B, F. -/
def onAB (i : Instr) (x : Byte × Byte × Byte) : Option (Byte × Byte) :=
  seen (exec i (abf x.1 x.2.1 x.2.2)) fun t => (t.cpu.a, t.cpu.f)

/-- B and F after an instruction on B, F. -/
def onB (i : Instr) (x : Byte × Byte) : Option (Byte × Byte) :=
  seen (exec i (abf 0 x.1 x.2)) fun t => (t.cpu.b, t.cpu.f)

/-- A and F after an instruction on A, F. -/
def onA (i : Instr) (x : Byte × Byte) : Option (Byte × Byte) :=
  seen (exec i (abf x.1 0 x.2)) fun t => (t.cpu.a, t.cpu.f)

/-- 95_test_vectors.md 2.4, ADD. -/
theorem test_add : [(0x3A, 0xC6, 0), (0x0F, 0x01, 0), (0xFF, 0x01, 0), (0x80, 0x80, 0), (0x12, 0x34, 0)].map
    (onAB .ADD_A_B) =
    [some (0x00, 0xB0), some (0x10, 0x20), some (0x00, 0xB0), some (0x00, 0x90), some (0x46, 0x00)] := by decide

/-- 95_test_vectors.md 2.4, ADC. -/
theorem test_adc : [(0xFF, 0x00, 0x10), (0x0F, 0x00, 0x10), (0x7F, 0x80, 0x10), (0x10, 0x10, 0x10)].map
    (onAB .ADC_A_B) = [some (0x00, 0xB0), some (0x10, 0x20), some (0x00, 0xB0), some (0x21, 0x00)] := by decide

/-- 95_test_vectors.md 2.4, SUB. -/
theorem test_sub : [(0x10, 0x01, 0), (0x00, 0x01, 0), (0x3E, 0x3E, 0), (0x3E, 0x0F, 0), (0x3E, 0x40, 0)].map
    (onAB .SUB_B) =
    [some (0x0F, 0x60), some (0xFF, 0x70), some (0x00, 0xC0), some (0x2F, 0x60), some (0xFE, 0x50)] := by decide

/-- 95_test_vectors.md 2.4, SBC. -/
theorem test_sbc : [(0x10, 0x0F, 0x10), (0x00, 0xFF, 0x10), (0x3B, 0x2A, 0x10)].map (onAB .SBC_A_B) =
    [some (0x00, 0xE0), some (0x00, 0xF0), some (0x10, 0x40)] ∧
    [(0x55, 0, 0x10), (0x55, 0, 0)].map (onAB .SBC_A_A) = [some (0xFF, 0x70), some (0x00, 0xC0)] := by decide

/-- 95_test_vectors.md 2.4, AND, XOR, OR, CP. -/
theorem test_logic_and_compare :
    [(0xF0, 0x0F, 0), (0x5A, 0x3F, 0)].map (onAB .AND_B) = [some (0x00, 0xA0), some (0x1A, 0x20)] ∧
    onAB .XOR_A (0x77, 0, 0xF0) = some (0x00, 0x80) ∧ onAB .XOR_B (0xFF, 0x0F, 0) = some (0xF0, 0x00) ∧
    [(0x00, 0x00, 0), (0x5A, 0x0F, 0)].map (onAB .OR_B) = [some (0x00, 0x80), some (0x5F, 0x00)] ∧
    [(0x3C, 0x40, 0), (0x3C, 0x3C, 0), (0x3C, 0x2F, 0)].map (onAB .CP_B) =
      [some (0x3C, 0x50), some (0x3C, 0xC0), some (0x3C, 0x60)] := by decide

/-- 95_test_vectors.md 2.4, INC and DEC; INC (HL) on DIV, where any write clears it. -/
theorem test_increment_decrement :
    [(0xFF, 0x10), (0x0F, 0x00)].map (onB .INC_B) = [some (0x00, 0xB0), some (0x10, 0x20)] ∧
    [(0x01, 0x00), (0x00, 0x10), (0x10, 0x00)].map (onB .DEC_B) =
      [some (0x00, 0xC0), some (0xFF, 0x70), some (0x0F, 0x60)] ∧
    seen (exec .INC__HL { (abf 0 0 0).setR16 .hl 0xFF04 with timer := { Timer.init with divCounter := 0x1200 } })
      (fun t => (readByte t 0xFF04, t.cpu.f, t.cost)) = some (0x00, 0x00, 12) := by decide

/-- 95_test_vectors.md 2.4, CPL, SCF, CCF, DAA. -/
theorem test_accumulator_adjust :
    onA .CPL (0x35, 0x00) = some (0xCA, 0x60) ∧ onA .SCF (0x00, 0xE0) = some (0x00, 0x90) ∧
    [(0x00, 0x90), (0x00, 0x80)].map (onA .CCF) = [some (0x00, 0x80), some (0x00, 0x90)] ∧
    [(0x7D, 0x00), (0x9A, 0x00), (0x1F, 0x60), (0xEE, 0x70), (0x00, 0x10)].map (onA .DAA) =
      [some (0x83, 0x00), some (0x00, 0x90), some (0x19, 0x40), some (0x88, 0x50), some (0x60, 0x10)] := by decide

/-- 95_test_vectors.md 2.5. -/
theorem test_word_arithmetic :
    seen (exec .INC_BC ((abf 0 0 0xF0).setR16 .bc 0xFFFF)) (fun t => (t.bc, t.cpu.f)) = some (0x0000, 0xF0) ∧
    seen (exec .DEC_DE (onDmg.setR16 .de 0x0000)) (fun t => (t.de, t.cpu.f)) = some (0xFFFF, 0xB0) ∧
    seen (exec .ADD_HL_BC (((abf 0 0 0x80).setR16 .hl 0x0FFF).setR16 .bc 0x0001)) (fun t => (t.hl, t.cpu.f)) =
      some (0x1000, 0xA0) ∧
    seen (exec .ADD_HL_HL ((abf 0 0 0).setR16 .hl 0x8000)) (fun t => (t.hl, t.cpu.f)) = some (0x0000, 0x10) ∧
    seen (exec .ADD_HL_DE (((abf 0 0 0).setR16 .hl 0xFFFF).setR16 .de 0x0001)) (fun t => (t.hl, t.cpu.f)) =
      some (0x0000, 0x30) ∧
    [(0xFFF8, 0x08), (0x0000, 0xFF), (0x000F, 0x01), (0xFFFF, 0x01)].map (fun x : Word × Byte =>
      seen (exec (.ADD_SP_e8 x.2) (atSp x.1)) fun t => (t.cpu.sp, t.cpu.f)) =
      [some (0x0000, 0x30), some (0xFFFF, 0x00), some (0x0010, 0x20), some (0x0000, 0x30)] := by decide

/-- 95_test_vectors.md 2.6, the rotations of A. -/
theorem test_rotate_accumulator :
    [(0x85, 0x00), (0x00, 0x00)].map (onA .RLCA) = [some (0x0B, 0x10), some (0x00, 0x00)] ∧
    onA .RRCA (0x01, 0x00) = some (0x80, 0x10) ∧ onA .RLA (0x80, 0x00) = some (0x00, 0x10) ∧
    onA .RRA (0x01, 0x10) = some (0x80, 0x10) := by decide

/-- 95_test_vectors.md 2.6, the CB shifts (on the registers B and A). -/
theorem test_shifts :
    [(0x80, 0x00), (0x00, 0x00)].map (onB .RLC_B) = [some (0x01, 0x10), some (0x00, 0x80)] ∧
    onB .RRC_B (0x01, 0x00) = some (0x80, 0x10) ∧ onB .RL_B (0x80, 0x00) = some (0x00, 0x90) ∧
    onB .RR_B (0x01, 0x00) = some (0x00, 0x90) ∧
    [(0xFF, 0x00), (0x80, 0x00)].map (onB .SLA_B) = [some (0xFE, 0x10), some (0x00, 0x90)] ∧
    [(0x81, 0x00), (0x01, 0x00)].map (onB .SRA_B) = [some (0xC0, 0x10), some (0x00, 0x90)] ∧
    [(0xF1, 0x00), (0x00, 0x00)].map (onA .SWAP_A) = [some (0x1F, 0x00), some (0x00, 0x80)] ∧
    [(0x01, 0x00), (0xFF, 0x00)].map (onA .SRL_A) = [some (0x00, 0x90), some (0x7F, 0x10)] := by decide

/-- 95_test_vectors.md 2.6, BIT, RES, SET. -/
theorem test_bits :
    onA .BIT_7_A (0x80, 0x10) = some (0x80, 0x30) ∧ onA .BIT_0_A (0x80, 0x00) = some (0x80, 0xA0) ∧
    seen (exec .BIT_3__HL (holding 0xC000 [0x08] ((abf 0 0 0).setR16 .hl 0xC000))) (fun t =>
      (t.cpu.f, t.cost, readByte t 0xC000)) = some (0x20, 12, 0x08) ∧
    seen (exec .RES_0__HL (holding 0xC000 [0xFF] (onDmg.setR16 .hl 0xC000))) (fun t =>
      (readByte t 0xC000, t.cpu.f, t.cost)) = some (0xFE, 0xB0, 16) ∧
    onA .SET_7_A (0x00, 0xF0) = some (0x80, 0xF0) := by decide

/-- 95_test_vectors.md 2.6: SWAP (HL) reads ROM and writes the controller. -/
theorem test_swap_on_a_controller :
    seen (exec .SWAP__HL (holding 0x2000 [0x21] ((withCart .mbc1 4 0).setR16 .hl 0x2000))) (fun t =>
      (t.mbc.mbc1Low5, t.cpu.f, t.cost)) = some (0x12, 0x00, 16) := by decide

/-- 95_test_vectors.md 2.2, the loads. -/
theorem test_byte_loads :
    seen (exec .LD_A_B (abf 0 0x12 0)) (fun t => (t.cpu.a, t.cost)) = some (0x12, 4) ∧
    seen (exec .LD_H__HL (holding 0xC000 [0x55] (onDmg.setR16 .hl 0xC000))) (fun t => (t.cpu.h, t.hl)) =
      some (0x55, 0x5500) ∧
    seen (exec .LD_A__HLinc { onDmg.setR16 .hl 0xFFFF with irq := { ifByte := 0, ieByte := 0x1F } }) (fun t =>
      (t.cpu.a, t.hl, t.cost)) = some (0x1F, 0x0000, 8) ∧
    seen (exec .LD_A__HLdec (holding 0x0000 [0x77] (onDmg.setR16 .hl 0x0000))) (fun t => (t.cpu.a, t.hl)) =
      some (0x77, 0xFFFF) ∧
    seen (exec .LD_A__C (holding 0xFF80 [0xAA] { onDmg with cpu := { onDmg.cpu with c := 0x80 } })) (fun t =>
      (t.cpu.a, t.cost)) = some (0xAA, 8) ∧
    seen (exec (.LDH_A__a8 0x44) { onDmg with ppu := { onDmg.ppu with ly := 0x90 } }) (fun t =>
      (t.cpu.a, t.cost)) = some (0x90, 12) := by decide

/-- 95_test_vectors.md 2.2, the stores. -/
theorem test_byte_stores :
    seen (exec .LD__HL__H (onDmg.setR16 .hl 0xC000)) (fun t => (readByte t 0xC000, t.cost)) = some (0xC0, 8) ∧
    seen (exec (.LDH__a8__A 0x07) (abf 0x05 0 0)) (fun t => (t.timer.tac, t.cost)) = some (0x05, 12) ∧
    seen (exec (.LD__a16__A 0x2000) (withCart .mbc1 4 0)) (fun t => (t.mbc.mbc1Low5, t.cost)) = some (1, 16) ∧
    seen (exec (.LD__a16__A 0x8000) (abf 0x11 0 0)) (fun t => (readByte t 0x8000, t.cost)) = some (0x11, 16) ∧
    stopOf (exec (.LD__a16__A 0xFF03) (abf 0x12 0 0)) = some (.unimplementedIOWrite 0xFF03) := by decide

/-- 95_test_vectors.md 2.3, the 16-bit loads. -/
theorem test_word_loads :
    seen (exec (.LD_HL_d16 0xC000) onDmg) (fun t => (t.cpu.h, t.cpu.l, t.cost)) = some (0xC0, 0x00, 12) ∧
    seen (exec (.LD__a16__SP 0xC000) (atSp 0xFFF8)) (fun t => (readByte t 0xC000, readByte t 0xC001, t.cost)) =
      some (0xF8, 0xFF, 20) ∧
    seen (exec (.LD__a16__SP 0xFFFF) { withCart .mbc1 4 0 with
        cpu := { onDmg.cpu with sp := 0xFFF8 }, mbc := { Mbc.init .mbc1 with ramEnable := true } })
      (fun t => (t.irq.ieByte, t.mbc.ramEnable)) = some (0xF8, false) ∧
    [(0xFFF8, 0x02), (0x0001, 0xFF), (0x00FF, 0xFF)].map (fun x : Word × Byte =>
      seen (exec (.LD_HL_SPplus_e8 x.2) (atSp x.1)) fun t => (t.hl, t.cpu.f)) =
      [some (0xFFFA, 0x00), some (0x0000, 0x30), some (0x00FE, 0x30)] ∧
    seen (exec .LD_SP_HL (onDmg.setR16 .hl 0xDFF0)) (fun t => (t.cpu.sp, t.cost)) = some (0xDFF0, 8) := by decide

/-- 95_test_vectors.md 2.3, the stack. -/
theorem test_stack :
    seen (exec .PUSH_BC (onDmg.setR16 .bc 0x1234)) (fun t =>
      (readByte t 0xFFFD, readByte t 0xFFFC, t.cpu.sp, t.cost)) = some (0x12, 0x34, 0xFFFC, 16) ∧
    seen (exec .POP_DE (holding 0xFFFC [0x34, 0x12] (atSp 0xFFFC))) (fun t => (t.de, t.cpu.sp, t.cost)) =
      some (0x1234, 0xFFFE, 12) ∧
    seen (exec .POP_AF (holding 0xC000 [0xFF, 0x12] (atSp 0xC000))) (fun t => (t.cpu.a, t.cpu.f)) =
      some (0x12, 0xF0) ∧
    seen (exec .PUSH_HL ((atSp 0x0000).setR16 .hl 0xABCD)) (fun t => (t.irq.ieByte, readByte t 0xFFFE, t.cpu.sp)) =
      some (0xAB, 0xCD, 0xFFFE) := by decide

/-- 95_test_vectors.md 2.9: the first byte of a push lands, the second faults. -/
theorem test_push_into_io :
    (match exec .PUSH_BC ((atSp 0xFF10).setR16 .bc 0x1234) with
      | .fault (.unimplementedIOWrite a d) => some (a, d.irq.ifByte)
      | _ => none) = some (0xFF0E, 0x12) := by decide

/-- 95_test_vectors.md 2.7, jumps, with PC after the instruction. -/
theorem test_jumps :
    seen (exec (.JP_NZ_a16 0x2000) ((abf 0 0 0x80).setPc 0x0153)) (fun t => (t.cpu.pc, t.cost)) = some (0x0153, 12) ∧
    seen (exec (.JP_NZ_a16 0x2000) ((abf 0 0 0).setPc 0x0153)) (fun t => (t.cpu.pc, t.cost)) = some (0x2000, 16) ∧
    seen (exec .JP_HL (onDmg.setR16 .hl 0xC000)) (fun t => (t.cpu.pc, t.cost)) = some (0xC000, 4) ∧
    [(0xC002, 0xFE), (0xFFF2, 0x20), (0x0202, 0x80)].map (fun x : Word × Byte =>
      seen (exec (.JR_e8 x.2) (onDmg.setPc x.1)) fun t => (t.cpu.pc, t.cost)) =
      [some (0xC000, 12), some (0x0012, 12), some (0x0182, 12)] ∧
    seen (exec (.JR_NZ_e8 0x05) ((abf 0 0 0).setPc 0x0202)) (fun t => (t.cpu.pc, t.cost)) = some (0x0207, 12) ∧
    seen (exec (.JR_NZ_e8 0x05) ((abf 0 0 0x80).setPc 0x0202)) (fun t => (t.cpu.pc, t.cost)) = some (0x0202, 8) := by
  decide

/-- 95_test_vectors.md 2.7, calls. -/
theorem test_calls :
    seen (exec (.CALL_a16 0x1234) (onDmg.setPc 0x0153)) (fun t => (t.cpu.sp, t.cpu.pc, t.cost)) =
      some (0xFFFC, 0x1234, 24) ∧
    seen (exec (.CALL_a16 0x1234) (onDmg.setPc 0x0153)) (fun t => (readByte t 0xFFFD, readByte t 0xFFFC)) =
      some (0x01, 0x53) ∧
    seen (exec (.CALL_C_a16 0x4000) ((abf 0 0 0).setPc 0x0303)) (fun t => (t.cpu.sp, t.cpu.pc, t.cost)) =
      some (0xFFFE, 0x0303, 12) ∧
    seen (exec .RST_0x28 (onDmg.setPc 0x0401)) (fun t => (readByte t 0xFFFD, readByte t 0xFFFC, t.cpu.pc, t.cost)) =
      some (0x04, 0x01, 0x0028, 16) := by decide

/-- 95_test_vectors.md 2.7, returns. -/
theorem test_returns :
    seen (exec .RET (holding 0xFFFC [0x53, 0x01] (atSp 0xFFFC))) (fun t => (t.cpu.pc, t.cpu.sp, t.cost)) =
      some (0x0153, 0xFFFE, 16) ∧
    seen (exec .RET_Z ((abf 0 0 0).setPc 0x0201)) (fun t => (t.cpu.pc, t.cpu.sp, t.cost)) =
      some (0x0201, 0xFFFE, 8) ∧
    seen (exec .RETI (holding 0xFFFC [0x00, 0x02] (atSp 0xFFFC))) (fun t =>
      (t.cpu.pc, t.cpu.sp, t.cpu.ime, t.cost)) = some (0x0200, 0xFFFE, true, 16) := by decide

/-- 95_test_vectors.md 2.8: HALT with IME = 0 is left in its own step; EI is deferred by one instruction. -/
theorem test_halt_and_ei_steps :
    seen (step (holding 0x0100 [0x76] onDmg)) (fun t => (t.cpu.pc, t.cpu.halted, t.cpu.ime, t.ppu.lineDot)) =
      some (0x0101, false, false, 4) ∧
    seen (step (holding 0x0100 [0xFB] onDmg)) (fun t => (t.cpu.ime, t.cpu.pending)) =
      some (false, [{ effect := .setIME, remaining := 1 }]) := by decide

/-- 95_test_vectors.md 2.8: STOP on CGB with the speed armed, and its faults. -/
theorem test_stop_steps :
    seen (step (holding 0x0100 [0x10, 0x00] { onCgb with cpu := { onCgb.cpu with key1Armed := true } })) (fun t =>
      (t.cpu.doubleSpeed, readByte t 0xFF4D, t.cpu.pc, t.ppu.lineDot)) = some (true, 0xFE, 0x0102, 4) ∧
    stopOf (step (holding 0x0100 [0x10, 0x00] onDmg)) = some .stopNotArmed ∧
    stopOf (step (holding 0x0100 [0x10, 0x01] onCgb)) = some (.illegalOpcode 0x10) ∧
    stopOf (step (holding 0x0100 [0xDD] onDmg)) = some (.illegalOpcode 0xDD) := by decide

/-- 95_test_vectors.md section 3, P2: the HALT step overflows the timer, wakes and dispatches in the same step. -/
theorem test_halt_timer_dispatch :
    let s := holding 0x0165 [0x76] { onDmg with
      cpu := { onDmg.cpu with pc := 0x0165, ime := true }
      irq := { ifByte := 0x00, ieByte := 0x04 }
      timer := { Timer.init with tac := 0x05, tima := 0xFF, timaAcc := 12 } }
    seen (step s) (fun t => (t.cpu.pc, t.cpu.ime, t.cpu.halted, t.irq.ifByte)) = some (0x0050, false, false, 0x00) ∧
    seen (step s) (fun t => (t.cpu.sp, readByte t 0xFFFD, readByte t 0xFFFC)) = some (0xFFFC, 0x01, 0x66) ∧
    seen (step s) (fun t => (t.timer.tima, t.timer.timaAcc, t.ppu.lineDot)) = some (0x01, 4, 24) := by decide

/-- 95_test_vectors.md 2.9, the dispatch check. -/
theorem test_dispatch :
    let s := { onDmg with cpu := { onDmg.cpu with pc := 0x0300, ime := true }
                          irq := { ifByte := 0x05, ieByte := 0x1F } }
    seen (dispatch s) (fun t => (t.irq.ifByte, t.cpu.ime, t.cpu.pc, t.timer.divCounter)) =
      some (0x04, false, 0x0040, 0xABE0) ∧
    seen (dispatch s) (fun t => (readByte t 0xFFFD, readByte t 0xFFFC, t.cpu.sp)) = some (0x03, 0x00, 0xFFFC) ∧
    seen (dispatch { onDmg with cpu := { onDmg.cpu with ime := true }, irq := { ifByte := 0x18, ieByte := 0x18 } })
      (fun t => (t.cpu.pc, t.irq.ifByte)) = some (0x0058, 0x10) := by decide

/-- 95_test_vectors.md 2.9, P1 reads. -/
theorem test_keypad :
    [(0x11, 2), (0x11, 1), (0x11, 3), (0x88, 0)].map (fun x : Byte × BitVec 2 =>
      readByte { onDmg with keypad := { keys := x.1, select := x.2 } } 0xFF00) = [0xEE, 0xDE, 0xFF, 0xC7] := by decide

/-- 60_exceptions.md R535, R540: the end of a transfer, with the byte that the peer gets. -/
theorem test_serial_exchange :
    (let t := serialTick { onDmg with
        serial := { sb := 0x12, sc := 0x81, busy := true }, irq := { ifByte := 0, ieByte := 0 }
        host := { HostIo.init with peer := .scripted [some 0x5A] } };
      t.serial = { sb := 0x5A, sc := 0x01, busy := false } ∧ t.irq.ifByte = 0x08 ∧ t.host.sent = [.serial 0x12]) := by
  decide

/-- 95_test_vectors.md 2.10. -/
theorem test_timer :
    [(0x05, 0xFF, 0xAB, 0, 16), (0x05, 0xFE, 0x00, 12, 24), (0x04, 0x00, 0x00, 0, 1020), (0x07, 0x00, 0x00, 0, 256),
     (0x06, 0x00, 0x00, 0, 128), (0x01, 0x33, 0x00, 10, 100), (0x05, 0xFF, 0xFF, 0, 48)].map
      (fun x : Byte × Byte × Byte × Nat × Nat =>
        let t := timerAdvance x.2.2.2.2 { onDmg with
          irq := { ifByte := 0, ieByte := 0 }
          timer := { divCounter := 0x00FF, tac := x.1, tima := x.2.1, tma := x.2.2.1, timaAcc := x.2.2.2.1 } }
        (t.timer.tima, t.timer.timaAcc, t.irq.ifByte)) =
      [(0xAB, 0, 0x04), (0x00, 4, 0x04), (0x00, 1020, 0x00), (0x01, 0, 0x00), (0x02, 0, 0x00), (0x33, 10, 0x00),
       (0xFF, 0, 0x04)] ∧
    seen (memWrite onDmg 0xFF04 0x55) (fun t => readByte t 0xFF04) = some 0x00 := by decide

/-- 95_test_vectors.md 2.13, banking. -/
theorem test_banking :
    [(0x00, 1), (0x21, 1), (0x1F, 31)].map (fun x : Byte × Nat =>
      seen (memWrite (withCart .mbc1 32 0) 0x2000 x.1) fun t => romBankEff t == x.2) =
      [some true, some true, some true] ∧
    seen (memWrite (withCart .mbc1 2 0) 0x2000 0x02) romBankEff = some 0 ∧
    seen (memWrite (withCart .mbc2 4 0) 0x2100 0x00) romBankEff = some 1 ∧
    seen (andThen (memWrite (withCart .mbc5 512 0) 0x2000 0x00) fun t => memWrite t 0x3000 0x01) romBankEff =
      some 0x100 ∧
    seen (memWrite (withCart .mbc5 512 0) 0x2000 0x00) romBankEff = some 1 := by decide

/-- 95_test_vectors.md 2.13, MBC2's RAM, the rumble bit, the clock. -/
theorem test_cartridge_ram :
    seen (andThen (memWrite (withCart .mbc2 4 0) 0x0000 0x0A) fun t => memWrite t 0xA000 0x12) (fun t =>
      (readByte t 0xA000, readByte t 0xA200)) = some (0xF2, 0xF2) ∧
    seen (memWrite (State.init .dmg { cartOf .mbc5 8 16 with hasRumble := true } [] [] []) 0x4000 0x0B) (fun t =>
      (t.mbc.rumble, t.mbc.ramBank, t.host.sent)) = some (true, some 3, [.rumble true]) ∧
    seen (memWrite (State.init .dmg { cartOf .mbc3 8 4 with hasRtc := true } [] [] []) 0x4000 0x08) (fun t =>
      (t.mbc.rtcSelect, t.mbc.ramBank)) = some (some .seconds, none) ∧
    readByte (withCart .mbc1 4 4) 0xA000 = 0xFF := by decide

/-- 95_test_vectors.md 2.13, the mirror, the unusable region, the bank registers, the latched HDMA addresses. -/
theorem test_memory_map :
    seen (memWrite onDmg 0xE000 0x42) (fun t => readByte t 0xC000) = some 0x42 ∧
    readByte (holding 0xDEA0 [0x99] onDmg) 0xFEA0 = 0x99 ∧
    seen (memWrite (holding 0xDEA0 [0x99] onDmg) 0xFEA0 0x01) (fun t => readByte t 0xDEA0) = some 0x99 ∧
    seen (memWrite onCgb 0xFF4F 0xFF) (fun t => readByte t 0xFF4F) = some 0xFF ∧
    seen (memWrite onCgb 0xFF70 0x00) (fun t => readByte t 0xFF70) = some 0xF9 ∧
    (hdmaLatch { Hdma.init with reg1 := 0xC1, reg2 := 0x23, reg3 := 0x9F, reg4 := 0xFF }).src = 0xC120 ∧
    (hdmaLatch { Hdma.init with reg1 := 0xC1, reg2 := 0x23, reg3 := 0x9F, reg4 := 0xFF }).dst = 0x1FF0 := by decide

/-- 95_test_vectors.md 2.11, register reads and palette RAM. -/
theorem test_ppu_registers :
    readByte { onDmg with ppu := { onDmg.ppu with statEnable := 8 } } 0xFF41 = 0xC6 ∧
    seen (memWrite onDmg 0xFF41 0xFF) (fun t => readByte t 0xFF41) = some 0xFE ∧
    seen (andThen (memWrite onCgb 0xFF68 0xBF) fun t => memWrite t 0xFF69 0x12) (fun t => readByte t 0xFF68) =
      some 0xC0 ∧
    [(0x1F, 0x00), (0x00, 0x7C), (0xE0, 0x03), (0xFF, 0x7F)].map (fun x : Byte × Byte =>
      cgbColour ((Memory.write [] 0 x.1).write 1 x.2) 0 0) =
      [.colour 0xFFFF0000, .colour 0xFF0000FF, .colour 0xFF00FF00, .colour 0xFFFFFFFF] ∧
    [0, 1, 2, 3].map (dmgShade 0x1B) = [.shade 3, .shade 2, .shade 1, .shade 0] := by decide

/-- 95_test_vectors.md 2.11, one tile row and the signed tile addresses. -/
theorem test_rendering :
    (renderLine (holding 0x8000 [0x3C, 0x7E] { onDmg with ppu := { onDmg.ppu with bgp := 0xE4 } }) 0).take 8 =
      [.shade 0, .shade 2, .shade 3, .shade 3, .shade 3, .shade 3, .shade 2, .shade 0] ∧
    [0x80, 0x7F, 0x00].map (tileBase { onDmg with ppu := { onDmg.ppu with lcdc := 0x81 } }) =
      [0x0800, 0x17F0, 0x1000] := by decide

/-- 95_test_vectors.md 2.11, the mode after one dot at the edges of a line. -/
theorem test_modes :
    [(0, 78), (0, 79), (0, 251), (0, 455), (143, 455), (153, 455)].map (fun x : Nat × Nat =>
      seen (ppuDot { onDmg with
          ppu := { onDmg.ppu with ly := x.1, lineDot := x.2, mode := modeAt x.1 x.2 }
          host := { HostIo.init with events := .scripted [] } })
        fun t => (t.ppu.ly, t.ppu.lineDot, t.ppu.mode)) =
      [some (0, 79, .oamScan), some (0, 80, .transfer), some (0, 252, .hblank), some (1, 0, .oamScan),
       some (144, 0, .vblank), some (0, 0, .oamScan)] := by decide

/-- 95_test_vectors.md 2.12, the registers and the shift register. -/
theorem test_sound :
    seen (memWrite onDmg 0xFF26 0x00) (fun t => (readByte t 0xFF26, readByte t 0xFF11, readByte t 0xFF25)) =
      some (0x70, 0x00, 0x00) ∧
    seen (andThen (memWrite onDmg 0xFF12 0xF0) fun t => memWrite t 0xFF14 0x80) (fun t => readByte t 0xFF26) =
      some 0xF1 ∧
    lfsrClock false 0x7FFF = 0x3FFF ∧ lfsrClock true 0x0001 = 0x4040 ∧
    (sweepStep { Sound.init with nr10 := 0x11, ch1 := { Sound.init.ch1 with freq := 1400, on := true } }).ch1.on =
      false ∧
    (sweepStep { Sound.init with nr10 := 0x19, ch1 := { Sound.init.ch1 with freq := 1400, on := true } }).ch1.freq =
      700 := by decide

/-- 63_sound.md R740: the volumes of NR50 without its bits 7 and 3, and the routing of NR51 (0x12: channel 1 left,
channel 2 right). -/
theorem test_mixer :
    (let i := soundInput { Sound.init with nr50 := 0xBD, nr51 := 0x12 };
      i.leftVolume = 3 ∧ i.rightVolume = 5 ∧
      [1, 2, 3, 4].map (routesTo i .left) = [true, false, false, false] ∧
      [1, 2, 3, 4].map (routesTo i .right) = [false, true, false, false]) := by decide

/-- 62_ppu.md R603, R607: IF after the dot that enters modes 0, 1 and 2, each with its own enable and with the others,
and after one that begins the line LYC names. -/
theorem test_stat_requests :
    [(0, 251, 1), (0, 251, 14), (143, 455, 2), (143, 455, 13), (0, 455, 4), (0, 455, 3), (0, 455, 8), (4, 455, 8)].map
      (fun x : Nat × Nat × BitVec 4 =>
        seen (ppuDot { onDmg with
            ppu := { onDmg.ppu with ly := x.1, lineDot := x.2.1, statEnable := x.2.2, lyc := 5, lycEqual := false }
            irq := { ifByte := 0, ieByte := 0 }, host := { HostIo.init with events := .scripted [] } })
          fun t => t.irq.ifByte) =
      [some 2, some 0, some 3, some 1, some 2, some 0, some 0, some 2] := by decide

/-- log entry 1: an instruction placed where the next step fetches it runs there, at the reset PC and where the PC is
in the I/O page. -/
theorem test_placed_instruction :
    seen (step (onDmg.withFetchWord 8 0x3C)) (fun t => (t.cpu.a, t.cpu.f, t.cpu.pc)) = some (0x02, 0x10, 0x0101) ∧
    seen (step ((onDmg.setPc 0xFF40).withFetchWord 16 0x1FCB)) (fun t => (t.cpu.a, t.cpu.f, t.cpu.pc)) =
      some (0x80, 0x10, 0xC002) := by decide

/-! ### Witnesses: for each obligation with hypotheses, states and operands that meet them -/

/-- A cartridge other than MMM01 is mapped. -/
theorem mapped {s : State} (h : s.cart.mbc ≠ .mmm01) : Mapped s := fun e => absurd e h

/-- `Unimplemented`, computed. -/
def isUnimplemented (a : Word) : Bool :=
  decide (0xFF00 ≤ a.toNat) && decide (a.toNat ≤ 0xFF7F) && decide (ioSlot (loByte a) = .unimplemented)

theorem unimplemented_iff (a : Word) : Unimplemented a ↔ isUnimplemented a = true := by
  simp [Unimplemented, isUnimplemented, and_assoc]

/-- `PlainStore`, computed. -/
def isPlain (s : State) (a : Word) : Bool := (locOf s a).plain && !unusable a

theorem plainStore_iff (s : State) (a : Word) : PlainStore s a ↔ isPlain s a = true := by
  simp [PlainStore, isPlain]

theorem ready_dmg : Ready onDmg := ⟨rfl, rfl, rfl, mapped (by decide)⟩

/-- O1, O2: instructions of one, two and three bytes. -/
theorem test_witness_decode_encode :
    (Instr.STOP 0x00).wellFormed = true ∧ (Instr.SET_7__HL).wellFormed = true ∧
    (Instr.CALL_NC_a16 0xFFFF).wellFormed = true ∧ decode [0xD4, 0xFF, 0xFF, 0x00] = .ok (.CALL_NC_a16 0xFFFF, [0x00]) ∧
    decode [0x00] = .ok (.NOP, []) := by decide

/-- O4: an instruction of each class. -/
theorem test_witness_classes :
    [Instr.LD_A_B, .LD_B_d8 1, .LD__HLdec__A, .LD_A__BC, .LD_SP_d16 2, .PUSH_AF, .POP_BC, .CP__HL, .XOR_d8 3, .INC__HL,
      .DEC_A, .INC_SP].map Instr.form =
    [.ldR8 .a .b, .ldR8Imm .b 1, .ldIndA .hlDec, .ldAInd .bc, .ldR16 .sp 2, .push .af, .pop .bc, .alu .cp .hlMem,
      .aluImm .xor 3, .incR8 .hlMem, .decR8 .a, .incR16 .sp] ∧
    [Instr.DEC_BC, .ADD_HL_SP, .RRA, .SRL__HL, .BIT_7_A, .RES_0_B, .SET_3__HL, .JP_C_a16 4, .JR_NC_e8 5,
      .CALL_Z_a16 6, .RET_NZ, .RST_0x38].map Instr.form =
    [.decR16 .bc, .addHl .sp, .rotA .rr, .shift .srl .hlMem, .bit 7 .a, .res 0 .b, .set 3 .hlMem, .jpCc .c 4,
      .jrCc .nc 5, .callCc .z 6, .retCc .nz, .rst 7] := by decide

/-- O6: the form, and a ready state with the first and the last illegal byte at PC. -/
theorem test_witness_illegal :
    Instr.ILLEGAL_0xFD.form = .illegal 0xFD ∧
    [0xD3, 0xFD].map (fun op => readByte (holding 0xC000 [op] (onDmg.setPc 0xC000)) 0xC000) = [0xD3, 0xFD] ∧
    Ready (holding 0xC000 [0xD3] (onDmg.setPc 0xC000)) :=
  ⟨rfl, by decide, rfl, rfl, rfl, mapped (by decide)⟩

/-- O7: armed on CGB, not armed, DMG, the other second byte, and a ready state with it at PC. -/
theorem test_witness_stop :
    (Instr.STOP 0x00).form = .stop 0 ∧ (Instr.STOP 0xFF).form = .stop 0xFF ∧
    (let s := { onCgb with cpu := { onCgb.cpu with key1Armed := true } };
      s.model = .cgb ∧ s.cpu.key1Armed = true) ∧
    ¬ (onCgb.model = .cgb ∧ onCgb.cpu.key1Armed = true) ∧ ¬ (onDmg.model = .cgb ∧ onDmg.cpu.key1Armed = true) ∧
    readByte (holding 0xC000 [0x10, 0x01] (onDmg.setPc 0xC000)) 0xC000 = 0x10 ∧
    readByte (holding 0xC000 [0x10, 0x01] (onDmg.setPc 0xC000)) (0xC000 + 1) ≠ 0 ∧
    Ready (holding 0xC000 [0x10, 0x01] (onDmg.setPc 0xC000)) :=
  ⟨rfl, rfl, ⟨rfl, rfl⟩, by decide, by decide, by decide, by decide, rfl, rfl, rfl, mapped (by decide)⟩

/-- O8: a ready state whose bytes at PC decode, at the top of the address space too. -/
theorem test_witness_step :
    Ready onDmg ∧ decode [readByte onDmg 0x0100, readByte onDmg (0x0100 + 1), readByte onDmg (0x0100 + 2)] =
      .ok (.NOP, [0x00, 0x00]) ∧
    Ready (onDmg.setPc 0xFFFE) ∧
    decode [readByte (onDmg.setPc 0xFFFE) 0xFFFE, readByte (onDmg.setPc 0xFFFE) (0xFFFE + 1),
      readByte (onDmg.setPc 0xFFFE) (0xFFFE + 2)] = .ok (.NOP, [0x00, 0x00]) :=
  ⟨ready_dmg, by decide, ⟨rfl, rfl, rfl, mapped (by decide)⟩, by decide⟩

/-- O9, O10: a halted state, each recorded stop, and the two refused configurations. -/
theorem test_witness_stopped :
    (let s := onDmg.setHalted true;
      s.fault = none ∧ configError s = none ∧ s.cpu.halted = true) ∧
    { onDmg with fault := some (.mmm01 0x7FFF) }.fault = some (.mmm01 0x7FFF) ∧
    (State.init .sgb Cart.plain [] [] []).fault = none ∧ (State.init .sgb Cart.plain [] [] []).model = .sgb ∧
    (withCart .none 1 0).model ≠ .sgb ∧ (withCart .none 1 0).cart.romBanks < 2 := by decide

/-- O11, O12: the operands of each load, and a mapped state. -/
theorem test_witness_loads :
    R8.reg .a = some .a ∧ R8.reg .l = some .l ∧ Instr.LD_A_L.form = .ldR8 .a .l ∧ (Instr.LD_A_d8 9).form = .ldR8Imm .a 9 ∧
    [Instr.LD_H__HL, .LD_A__BC, .LD_A__DE, .LD_A__HLinc, .LD_A__HLdec, .LD_A__a16 0xFFFF, .LDH_A__a8 0xFF,
      .LD_A__C].map Instr.form =
    [.ldR8 .h .hlMem, .ldAInd .bc, .ldAInd .de, .ldAInd .hlInc, .ldAInd .hlDec, .ldAMem 0xFFFF, .ldhLoad 0xFF,
      .ldAHighC] ∧ onDmg.cart.mbc ≠ .mmm01 := by decide

/-- O13, O39: the forms that store A or a register, and addresses on both sides of every edge. -/
theorem test_witness_stores :
    [Instr.LD__HL__H, .LD__HL__d8 1, .LD__BC__A, .LD__DE__A, .LD__HLinc__A, .LD__HLdec__A, .LD__a16__A 0xFF0E,
      .LDH__a8__A 0x7F, .LD__C__A].map Instr.form =
    [.ldR8 .hlMem .h, .ldR8Imm .hlMem 1, .ldIndA .bc, .ldIndA .de, .ldIndA .hlInc, .ldIndA .hlDec, .ldMemA 0xFF0E,
      .ldhStore 0x7F, .ldHighCA] ∧
    [0xFF02, 0xFF04, 0xFF07, 0xFF0F, 0xFF14, 0xFF16, 0xFF1E, 0xFF20, 0xFF26, 0xFF30, 0xFF4B, 0xFF4D, 0xFF4F, 0xFF51,
      0xFF55, 0xFF68, 0xFF6B, 0xFF70, 0xFF80, 0xFEFF, 0x0000, 0xFFFF].all (fun a => !isUnimplemented a) = true ∧
    [0xFF03, 0xFF08, 0xFF0E, 0xFF15, 0xFF1F, 0xFF27, 0xFF2F, 0xFF4C, 0xFF4E, 0xFF50, 0xFF56, 0xFF67, 0xFF6C, 0xFF6F,
      0xFF71, 0xFF7F].all isUnimplemented = true := by decide

/-- O13: HL at an address on each side of an edge. -/
theorem test_witness_store_addresses :
    ¬ Unimplemented (onDmg.setR16 .hl 0xFF02).hl ∧ Unimplemented (onDmg.setR16 .hl 0xFF03).hl ∧ Mapped onDmg := by
  rw [unimplemented_iff, unimplemented_iff]
  exact ⟨by decide, by decide, mapped (by decide)⟩

/-- O14, O15, O16, O17, O23: the 16-bit forms, with addresses where the two stores complete, at the wrap too. -/
theorem test_witness_word_forms :
    [Instr.LD_SP_d16 1, .LD_SP_HL, .LD_HL_SPplus_e8 0x80, .ADD_SP_e8 0x7F, .LD__a16__SP 0xFFFF, .PUSH_AF, .POP_BC, .POP_DE,
      .POP_HL, .POP_AF, .INC_SP, .DEC_SP, .ADD_HL_SP].map Instr.form =
    [.ldR16 .sp 1, .ldSpHl, .ldHlSp 0x80, .addSp 0x7F, .ldMemSp 0xFFFF, .push .af, .pop .bc, .pop .de, .pop .hl,
      .pop .af, .incR16 .sp, .decR16 .sp, .addHl .sp] ∧
    isUnimplemented 0xFFFF = false ∧ isUnimplemented (0xFFFF + 1) = false ∧
    isUnimplemented (onDmg.cpu.sp - 1) = false ∧ isUnimplemented (onDmg.cpu.sp - 2) = false ∧
    isUnimplemented (0x0000 - 1) = false ∧ isUnimplemented (0x0000 - 2) = false := by decide

/-- O16, O30, O54: a stack pointer below which both bytes can be written. -/
theorem test_witness_push_ok : PushOk onDmg.cpu.sp ∧ PushOk 0x0000 ∧ PushOk 0xFF02 := by
  unfold PushOk
  simp only [unimplemented_iff]
  decide

/-- O18, O19: each operation with each kind of source. -/
theorem test_witness_alu_sources :
    [Instr.ADD_A_B, .ADC_A__HL, .SUB_d8 0xFF, .SBC_A_A, .CP__HL, .AND_d8 0, .XOR_C, .OR__HL].map
      (fun i => aluSource i.form (holding 0xC000 [0x5A] (onDmg.setR16 .hl 0xC000))) =
    [some (.add, 0x00, 4), some (.adc, 0x5A, 8), some (.sub, 0xFF, 8), some (.sbc, 0x01, 4), some (.cp, 0x5A, 8),
      some (.and, 0x00, 8), some (.xor, 0x13, 4), some (.or, 0x5A, 8)] := by decide

/-- O20, O25, O26, O27: operands in a register and at HL, with HL where a store completes. -/
theorem test_witness_operand_forms :
    [Instr.INC_A, .INC__HL, .DEC_B, .DEC__HL, .SRL_A, .RLC__HL, .BIT_7_A, .BIT_0__HL, .RES_7_A, .RES_0__HL, .SET_7_A,
      .SET_0__HL].map Instr.form =
    [.incR8 .a, .incR8 .hlMem, .decR8 .b, .decR8 .hlMem, .shift .srl .a, .shift .rlc .hlMem, .bit 7 .a, .bit 0 .hlMem,
      .res 7 .a, .res 0 .hlMem, .set 7 .a, .set 0 .hlMem] ∧
    R8.reg .a = some .a ∧ R8.reg .b = some .b ∧ R8.reg .hlMem = none ∧
    isUnimplemented onDmg.hl = false ∧ onDmg.cart.mbc ≠ .mmm01 := by decide

/-- O21, O24: the forms on A alone, and NF clear and set. -/
theorem test_witness_accumulator_forms :
    [Instr.CPL, .SCF, .CCF, .DAA, .RLCA, .RRCA, .RLA, .RRA].map Instr.form =
    [.cpl, .scf, .ccf, .daa, .rotA .rlc, .rotA .rrc, .rotA .rl, .rotA .rr] ∧
    (abf 0 0 0xB0).nf = false ∧ (abf 0 0 0xF0).nf = true := by decide

/-- O22: two decimal numbers in A and B, at both ends of the range. -/
theorem test_witness_decimal :
    (abf 0x99 0x00 0).cpu.a = BitVec.ofNat 8 (99 / 10 * 16 + 99 % 10) ∧
    (abf 0x99 0x00 0).cpu.b = BitVec.ofNat 8 (0 / 10 * 16 + 0 % 10) ∧
    (abf 0x00 0x99 0).cpu.a = BitVec.ofNat 8 (0 / 10 * 16 + 0 % 10) ∧
    (abf 0x00 0x99 0).cpu.b = BitVec.ofNat 8 (99 / 10 * 16 + 99 % 10) := by decide

/-- O28: the prefix, and a state whose HL a store completes at. -/
theorem test_witness_prefix :
    (Instr.PREFIX_CB 0x06).form = .prefixCb 0x06 ∧ Mapped onDmg ∧ ¬ Unimplemented onDmg.hl := by
  rw [unimplemented_iff]
  exact ⟨rfl, mapped (by decide), by decide⟩

/-- O29, O30, O31: the control transfers, and each condition both ways. -/
theorem test_witness_transfers :
    [Instr.JP_a16 1, .JP_NZ_a16 2, .JP_HL, .JR_e8 0x80, .JR_C_e8 0x7F, .CALL_a16 3, .CALL_NC_a16 4, .RST_0x38, .RST_0x00,
      .RET, .RET_Z, .RETI].map Instr.form =
    [.jp 1, .jpCc .nz 2, .jpHl, .jr 0x80, .jrCc .c 0x7F, .call 3, .callCc .nc 4, .rst 7, .rst 0, .ret, .retCc .z,
      .reti] ∧
    (Taken .z (abf 0 0 0x80) ∧ Taken .nz (abf 0 0 0x70) ∧ Taken .c (abf 0 0 0x10) ∧ Taken .nc (abf 0 0 0xE0)) ∧
    (¬ Taken .z (abf 0 0 0x70) ∧ ¬ Taken .nz (abf 0 0 0x80) ∧ ¬ Taken .c (abf 0 0 0xE0) ∧
      ¬ Taken .nc (abf 0 0 0x10)) := by
  unfold Taken
  decide

/-- O32: the forms. -/
theorem test_witness_control_forms : [Instr.NOP, .HALT, .EI, .DI].map Instr.form = [.nop, .halt, .ei, .di] := by decide

/-- O33: a form without a store that completes, of each kind of the frame. -/
theorem test_witness_frame_without_store :
    [Instr.LD_A_B, .POP_AF, .RET, .EI, .BIT_0__HL, .ADD_HL_SP].map (fun i =>
      storesNothing i.form && (seen (exec i onDmg) fun _ => ()).isSome) = List.replicate 6 true := by decide

/-- O34: byte stores that complete, to plain memory and to a register. -/
theorem test_witness_frame_byte_store :
    byteStore Instr.INC__HL.form (onDmg.setR16 .hl 0xC000) = some (0xC000, 0x01) ∧
    (seen (exec .INC__HL (onDmg.setR16 .hl 0xC000)) fun _ => ()).isSome = true ∧
    isPlain (onDmg.setR16 .hl 0xC000) 0xC000 = true ∧
    byteStore (Instr.LDH__a8__A 0x04).form onDmg = some (0xFF04, 0x01) ∧
    (seen (exec (.LDH__a8__A 0x04) onDmg) fun _ => ()).isSome = true ∧
    byteStore (Instr.LD__a16__A 0xFFFF).form onDmg = some (0xFFFF, 0x01) ∧ isPlain onDmg 0xFFFF = true := by decide

/-- O35: word stores that complete to plain memory, one across the edge of HRAM and IE. -/
theorem test_witness_frame_word_store :
    wordStore (Instr.CALL_a16 0x1234).form (onDmg.setPc 0x0103) = some (0xFFFC, 0x0103) ∧
    (seen (exec (.CALL_a16 0x1234) (onDmg.setPc 0x0103)) fun _ => ()).isSome = true ∧
    wordStore (Instr.LD__a16__SP 0xFFFE).form onDmg = some (0xFFFE, 0xFFFE) ∧
    (seen (exec (.LD__a16__SP 0xFFFE) onDmg) fun _ => ()).isSome = true ∧
    [0xFFFC, 0xFFFD, 0xFFFE, 0xFFFE + 1].all (isPlain onDmg) = true ∧
    wordStore (Instr.CALL_Z_a16 0x1234).form (abf 0 0 0x80) = some (0xFFFC, 0x0100) := by decide

/-- O36: F with a zero low nibble, and instructions that complete. -/
theorem test_witness_low_nibble :
    onDmg.cpu.f &&& 0x0F = 0 ∧ (seen (exec .ADD_A_B onDmg) fun _ => ()).isSome = true ∧
    (seen (exec .POP_AF onDmg) fun _ => ()).isSome = true := by decide

/-- The same machine with its RAM gate open. -/
def opened (s : State) : State := { s with mbc := { s.mbc with ramEnable := true } }

/-- O37, O38: plain memory at both ends of each region, an MBC2 cell, and the mirror and unusable edges. -/
theorem test_witness_memory_edges :
    [0x8000, 0x9FFF, 0xA000, 0xBFFF, 0xC000, 0xDFFF, 0xE000, 0xFDFF, 0xFE00, 0xFE9F, 0xFF80, 0xFFFE, 0xFFFF].all
      (isPlain (State.init .dmg (cartOf .none 2 1) [] [] [])) = true ∧
    [0xFEA0, 0xFEFF, 0xFF00, 0x7FFF].all (fun a => !isPlain onDmg a) = true ∧
    locOf (opened (withCart .mbc2 4 0)) 0xA200 = .mbc2ram 0 := by decide

/-- O37: the identity registers at both ends of wave RAM, and IF. -/
theorem test_witness_identity_registers :
    [0xFF30, 0xFF3F].map (fun a : Word => seen (memWrite onDmg a 0x5A) fun t => readByte t a) =
      [some 0x5A, some 0x5A] ∧
    seen (memWrite onDmg 0xFF0F 0xFF) (fun t => (readByte t 0xFF0F, t.irq.ieByte)) = some (0xFF, 0x00) := by decide

/-- O40: both ends of the region; the gate closed on each controller; no bank selected; no RAM. -/
theorem test_witness_external_ram_closed :
    0xA000 ≤ (0xA000 : Word).toNat ∧ (0xBFFF : Word).toNat ≤ 0xBFFF ∧
    [MbcKind.mbc1, .mbc2, .mbc3, .mbc5].map (fun k =>
      ((withCart k 4 4).mbc.ramEnable, [0xA000, 0xBFFF].map (readByte (withCart k 4 4)))) =
      List.replicate 4 (false, [0xFF, 0xFF]) ∧
    (let s := { withCart .mbc3 4 4 with mbc := { Mbc.init .mbc3 with ramBank := none } };
      s.cart.mbc = .mbc3 ∧ s.mbc.rtcSelect = none ∧ s.mbc.ramBank = none) ∧
    (withCart .none 2 0).cart.ramBanks = 0 := by decide

/-- O40: open on each controller, a store at an end of the region and where it lands: without a controller, on MBC1 in
both modes (the bank modulo the number of banks), on MBC3, on MBC5, on MBC2, and to a mapped clock register. -/
theorem test_witness_external_ram_open :
    seen (memWrite (withCart .none 2 4) 0xBFFF 0x5A) (fun t => t.mem.eram) = some [(0x1FFF, 0x5A)] ∧
    [false, true].map (fun mode =>
      seen (memWrite { withCart .mbc1 4 2 with
          mbc := { Mbc.init .mbc1 with ramEnable := true, mbc1Mode := mode, mbc1Upper := 3 } } 0xA000 0x5A)
        fun t => t.mem.eram) = [some [(0x0000, 0x5A)], some [(0x2000, 0x5A)]] ∧
    [MbcKind.mbc3, .mbc5].map (fun k =>
      seen (memWrite { withCart k 4 4 with mbc := { Mbc.init k with ramEnable := true, ramBank := some 7 } } 0xBFFF 0x5A)
        fun t => (t.mem.eram, readByte t 0xBFFF)) = List.replicate 2 (some ([(0x7FFF, 0x5A)], 0x5A)) ∧
    seen (memWrite (opened (withCart .mbc2 4 0)) 0xBFFF 0x5A) (fun t => (t.mem.mbc2ram, readByte t 0xA1FF)) =
      some ([(0x1FF, 0x0A)], 0xFA) ∧
    seen (memWrite { withCart .mbc3 4 0 with mbc := { Mbc.init .mbc3 with
        ramEnable := true, rtcSelect := some .hours } } 0xA000 0x17) (fun t => (readByte t 0xBFFF, t.host.sent)) =
      some (0x17, [.rtcSet .hours 0x17]) ∧
    seen (memWrite { withCart .mbc3 4 0 with mbc := { Mbc.init .mbc3 with
        ramEnable := true, rtcSelect := some .hours } } 0xA000 0x17) (fun t => t.host.clockRequests) =
      some [.set .hours 0x17] := by decide

/-- O41: MBC1's registers at both ends of each quarter of the ROM region. -/
theorem test_witness_mbc1_edges :
    [0x0000, 0x1FFF].map (fun a : Word => seen (memWrite (withCart .mbc1 4 0) a 0x0A) fun t => t.mbc.ramEnable) =
      [some true, some true] ∧
    [0x2000, 0x3FFF].map (fun a : Word => seen (memWrite (withCart .mbc1 4 0) a 0x0A) fun t => t.mbc.mbc1Low5) =
      [some 10, some 10] ∧
    [0x4000, 0x5FFF].map (fun a : Word => seen (memWrite (withCart .mbc1 4 0) a 0x0A) fun t => t.mbc.mbc1Upper) =
      [some 2, some 2] ∧
    [0x6000, 0x7FFF].map (fun a : Word => seen (memWrite (withCart .mbc1 4 0) a 0x0B) fun t => t.mbc.mbc1Mode) =
      [some true, some true] := by decide

/-- O42: the bank registers at the ends of their ranges, on MBC2 by address bit 8 too. -/
theorem test_witness_controller_edges :
    [MbcKind.none, .mbc1, .mbc2, .mbc3, .mbc5].map (fun k => (withCart k 4 0).cart.mbc) =
      [.none, .mbc1, .mbc2, .mbc3, .mbc5] ∧
    [0x00FF, 0x0100, 0x3EFF, 0x3FFF, 0x4000].map (fun a : Word =>
      seen (memWrite (withCart .mbc2 4 0) a 0x0A) fun t => (t.mbc.ramEnable, t.mbc.romBank)) =
      [some (true, 1), some (false, 10), some (true, 1), some (false, 10), some (false, 1)] ∧
    [0x1FFF, 0x2000, 0x3FFF].map (fun a : Word =>
      seen (memWrite (withCart .mbc3 4 0) a 0x8A) fun t => (t.mbc.ramEnable, t.mbc.romBank)) =
      [some (true, 1), some (false, 10), some (false, 10)] ∧
    [0x2000, 0x2FFF, 0x3000, 0x3FFF].map (fun a : Word =>
      seen (memWrite (withCart .mbc5 4 0) a 0x83) fun t => t.mbc.romBank) =
      [some 0x083, some 0x083, some 0x101, some 0x101] := by decide

/-- O42: an MBC3 cartridge with a clock, whose latch was last written with 0 or with 1. -/
def clocked (last : Bool) : State :=
  { State.init .dmg { cartOf .mbc3 4 4 with hasRtc := true } [] [] [] with
    mbc := { Mbc.init .mbc3 with rtcLatchLast := last } }

/-- O42: MBC3's select at the edges of its ranges, with and without a clock, and its latch on a rising edge only. -/
theorem test_witness_clock_edges :
    [0x03, 0x04, 0x08, 0x0C, 0x0D].map (fun v =>
      seen (memWrite (clocked false) 0x5FFF v) fun t => (t.mbc.ramBank, t.mbc.rtcSelect)) =
      [some (some 3, none), some (none, none), some (none, some .seconds), some (none, some .dayHigh),
        some (none, none)] ∧
    seen (memWrite (withCart .mbc3 4 4) 0x4000 0x08) (fun t => (t.mbc.ramBank, t.mbc.rtcSelect)) = some (none, none) ∧
    [(false, 0xFF), (false, 0xFE), (true, 0xFF), (true, 0xFE)].map (fun x : Bool × Byte =>
      seen (memWrite (clocked x.1) 0x7FFF x.2) fun t => (t.mbc.rtcLatchLast, t.host.clockRequests)) =
      [some (true, [.sample]), some (false, []), some (true, []), some (false, [])] := by decide

/-- O42: MBC5's gate, its RAM bank register with and without the motor, and its last quarter. -/
theorem test_witness_rumble_edges :
    seen (memWrite (withCart .mbc5 4 16) 0x1FFF 0x0A) (fun t => t.mbc.ramEnable) = some true ∧
    [false, true].map (fun motor => [0x17, 0x1F].map fun v =>
      seen (memWrite (State.init .dmg { cartOf .mbc5 4 16 with hasRumble := motor } [] [] []) 0x5FFF v) fun t =>
        (t.mbc.ramBank, t.mbc.rumble, t.host.sent)) =
      [[some (some 7, false, []), some (some 15, false, [])],
        [some (some 7, false, []), some (some 7, true, [.rumble true])]] ∧
    seen (memWrite (withCart .mbc5 4 16) 0x6000 0xFF) id = some (withCart .mbc5 4 16) := by decide

/-- O41, O42: what the ROM region reads at the ends of its two halves, with four banks and bank 1 selected. -/
theorem test_witness_rom_reads :
    [MbcKind.none, .mbc1, .mbc2, .mbc3, .mbc5].map (fun k =>
      let s := State.init .dmg (cartOf k 4 0) [(0x3FFF, 0x11), (0x4000, 0x22), (0x7FFF, 0x33)] [] [];
      [0x3FFF, 0x4000, 0x7FFF].map (readByte s)) = List.replicate 5 [0x11, 0x22, 0x33] ∧
    (let s := State.init .dmg (cartOf .mbc5 4 0) [(0xC000, 0x44), (0xFFFF, 0x55)] [] [];
      [0x4000, 0x7FFF].map (readByte { s with mbc := { s.mbc with romBank := 7 } }) = [0x44, 0x55]) := by decide

/-- O43, O44: a mapped CGB state whose HDMA source is work RAM, and one with an H-blank transfer. -/
theorem test_witness_transfer_engine :
    Mapped onCgb ∧ onCgb.model = .cgb ∧ onCgb.hdma.hblank = false ∧
    (let s := { onCgb with hdma := { Hdma.init with src := 0xC000, hblank := true } };
      s.hdma.hblank = true ∧ ∀ j n, j < 16 → locOf s (s.hdma.src + BitVec.ofNat 16 j) ≠ .vram n) := by
  refine ⟨mapped (by decide), rfl, rfl, rfl, fun j n hj => ?_⟩
  have h : ∀ j, j < 16 → locOf { onCgb with hdma := { Hdma.init with src := 0xC000, hblank := true } }
      (0xC000 + BitVec.ofNat 16 j) = .wram j := by decide
  show locOf _ (0xC000 + BitVec.ofNat 16 j) ≠ .vram n
  rw [h j hj]
  simp

/-- O44: a general-purpose transfer of two blocks, whose source starts in VRAM before its destination, so that the
second half reads what the first stored; and the last H-blank block, at the dot that enters mode 0. -/
theorem test_witness_hdma_blocks :
    seen (memWrite (holding 0x8000 [0x5A] { onCgb with
        hdma := { Hdma.init with src := 0x8000, dst := 0x0010 } }) 0xFF55 0x01) (fun t =>
      ([0x8010, 0x8020].map (readByte t), t.extra, t.hdma.src, t.hdma.dst, readByte t 0xFF55)) =
      some ([0x5A, 0x5A], 64, 0x8020, 0x0030, 0xFF) ∧
    (let s := holding 0xC000 [0x5A] { onCgb with
        ppu := { onCgb.ppu with lineDot := 251, mode := .transfer }
        hdma := { Hdma.init with src := 0xC000, dst := 0x1FF0, left := 1, hblank := true } };
      s.ppu.ly < 144 ∧ s.hdma.hblank = true ∧ 0 < s.hdma.left ∧ s.hdma.left ≤ 128 ∧ readByte s 0xFF55 = 0x00 ∧
      seen (ppuDot s) (fun t => (readByte t 0x9FF0, t.hdma.left, t.hdma.hblank, t.hdma.stall)) =
        some (0x5A, 0, false, 32)) ∧
    { onCgb with hdma := { Hdma.init with left := 128 } }.hdma.hblank = false := by decide

/-- O45: a state of each model, and the last byte of OBJ palette RAM with and without the auto-increment. -/
theorem test_witness_models : onCgb.model = .cgb ∧ onDmg.model = .dmg ∧
    [0xFF, 0x3F].map (fun v => seen (andThen (memWrite onCgb 0xFF6A v) fun t => memWrite t 0xFF6B 0x12) fun t =>
      (readByte t 0xFF6A, t.ppu.objPalette)) = [some (0xC0, [(63, 0x12)]), some (0x7F, [(63, 0x12)])] := by decide

/-- Key events placed at the next drain, with Start up or held before it. -/
def keyed (held : Bool) (events : List KeyEvent) : State :=
  { onDmg with
    keypad := { keys := if held then 0x80 else 0x00, select := 0 }
    host := { HostIo.init with events := .scripted [events] } }

/-- A transfer in progress whose peer has the given answer. -/
def transferring (answer : Option Byte) : State :=
  { onDmg with
    serial := { sb := 0x11, sc := 0x81, busy := true }, host := { HostIo.init with peer := .scripted [answer] } }

/-- O46: Start pressed; released and pressed again while held; pressed while held; pressed and released again; and IF
bit 4 and the key after each. -/
theorem test_witness_keys :
    [(false, [true]), (true, [false, true]), (true, [true]), (false, [true, false])].map (fun x : Bool × List Bool =>
      let t := drainEvents (keyed x.1 (x.2.map fun p => { key := .start, pressed := p }))
      (t.irq.ifByte.getLsbD 4, t.keypad.keys)) =
      [(true, 0x80), (true, 0x80), (false, 0x80), (false, 0x00)] := by decide

/-- O46: a transfer that completes, one that goes on, and none. -/
theorem test_witness_peer_answers :
    (transferring (some 0x5A)).serial.busy = true ∧
    Source.answer (transferring (some 0x5A)).host.peer (Config.serialPeer [(0x11, 0x81)]) none = some 0x5A ∧
    Source.answer (transferring none).host.peer (Config.serialPeer [(0x11, 0x81)]) none = none ∧
    (serialTick (transferring none)).host.peerShown = [(0x11, 0x81)] ∧ onDmg.serial.busy = false :=
  ⟨rfl, rfl, rfl, rfl, rfl⟩

/-- O47: off, and on without and with an overflow. -/
theorem test_witness_timer :
    onDmg.timer.tac.getLsbD 2 = false ∧
    (let s := { onDmg with timer := { Timer.init with tac := 0x05, tima := 0xFE } };
      s.timer.tac.getLsbD 2 = true ∧
      s.timer.tima.toNat + (s.timer.timaAcc + 16) / timerPeriod s.timer.tac ≤ 255 ∧
      256 ≤ s.timer.tima.toNat + (s.timer.timaAcc + 32) / timerPeriod s.timer.tac) := by decide

theorem ppuInv_cgb : PpuInv onCgb where
  line := by decide
  dot := by decide
  modeOn := by decide
  modeOff := by decide
  coincidence := by decide
  lines := brightFrame_lines .cgb
  columns := brightFrame_columns .cgb

/-- O48, O49: an advance of a whole frame from line 0 dot 0 completes; and the LCD off. -/
theorem test_witness_ppu_advance :
    Mapped onCgb ∧ PpuInv onCgb ∧ onCgb.ppu.lcdOn = true ∧ onCgb.ppu.ly * 456 + onCgb.ppu.lineDot = 0 ∧
    (∃ t, ppuAdvance 70224 onCgb = .next t) ∧
    { onDmg with ppu := { onDmg.ppu with lcdc := 0x11 } }.ppu.lcdOn = false := by
  refine ⟨mapped (by decide), ppuInv_cgb, rfl, rfl, ?_, rfl⟩
  obtain ⟨t, ht⟩ := ppuDots_completes (d := 70224) ppuInv_cgb rfl (mapped (by decide))
  exact ⟨t, by unfold ppuAdvance; rw [if_pos (show onCgb.ppu.lcdOn = true from rfl)]; exact ht⟩

/-- O10: what a launch records for a wrong type byte, ROM-size byte, RAM-size byte and model, and for none. -/
theorem test_witness_launch :
    [(Model.dmg, 0x04, 0x00, 0x00), (.dmg, 0x1F, 0x06, 0x04), (.cgb, 0x1E, 0x07, 0x00), (.dmg, 0x00, 0x55, 0x04),
      (.cgb, 0x13, 0x54, 0x05), (.sgb, 0x03, 0x52, 0x03), (.cgb, 0x10, 0x06, 0x02)].map
      (fun x : Model × Byte × Byte × Byte => (State.launch x.1 x.2.1 x.2.2.1 x.2.2.2 false [] [] []).fault) =
      [some (.configuration (.cartridgeType 0x04)), some (.configuration (.cartridgeType 0x1F)),
        some (.configuration (.romSizeCode 0x07)), some (.configuration (.romSizeCode 0x55)),
        some (.configuration (.ramSizeCode 0x05)), some (.configuration .superConsole), none] ∧
    [(0x06, 0x04), (0x54, 0x02), (0x00, 0x00)].map (fun x : Byte × Byte =>
      let c := (State.launch .cgb 0x10 x.1 x.2 false [] [] []).cart
      (c.mbc, c.hasRtc, c.romBanks, c.ramBanks)) =
      [(.mbc3, true, 128, 16), (.mbc3, true, 96, 1), (.mbc3, true, 2, 0)] := by decide

/-- O50, O51: the last line and dot; turning the LCD off, on, and neither. -/
theorem test_witness_lcd :
    { onDmg with ppu := { onDmg.ppu with ly := 153 } }.ppu.ly < 154 ∧
    { onDmg with ppu := { onDmg.ppu with lineDot := 455 } }.ppu.lineDot < 456 ∧ onDmg.ppu.lcdOn = true ∧
    (0x11 : Byte).getLsbD 7 = false ∧ (0x91 : Byte).getLsbD 7 = true ∧
    { onDmg with ppu := { onDmg.ppu with lcdc := 0x11 } }.ppu.lcdOn = false := by decide

/-- O51: a shade that reaches shade 0 in every channel, shade 0 itself; and blue, green and red of a word. -/
theorem test_witness_shades :
    (∀ k < 3, colourChannel (Pixel.shade 0).argb k ≤ colourChannel (Pixel.shade 0).argb k) ∧
    [0, 1, 2].map (colourChannel 0xFF9BBC0F) = [0x0F, 0xBC, 0x9B] := ⟨fun _ _ => le_rfl, by decide⟩

/-- O52: the power bit both ways, and registers at both ends of the range. -/
theorem test_witness_sound_power :
    { Sound.init with power := false }.power = false ∧ (0x7F : Byte).getLsbD 7 = false ∧ (0x80 : Byte).getLsbD 7 = true ∧ onDmg.sound.power = true ∧
    [0xFF10, 0xFF25].all (fun a : Word => decide (0xFF10 ≤ a.toNat) && decide (a.toNat ≤ 0xFF25) && !isUnimplemented a) =
      true := by decide

/-- O53: two inputs that differ in a level routed to neither side, and two bytes of NR50 that differ in bits 7 and 3. -/
theorem test_witness_mixer :
    (let i := soundInput { Sound.init with nr51 := 0x12 };
      let j := { i with level3 := 9 };
      j.routing = i.routing ∧ masterVolume j .left = masterVolume i .left ∧ j.level3 ≠ i.level3 ∧
      routesTo i .left 3 = false ∧ routesTo i .right 3 = false) ∧
    (0xFF : Byte) &&& 0x77 = Sound.init.nr50 &&& 0x77 := by decide

/-- O54: the lowest and the highest interrupt as the lowest requested; IME clear; nothing requested. -/
theorem test_witness_dispatch :
    [0, 4].all (fun n => decide (n < 5) && (BitVec.ofNat 8 (2 ^ n)).getLsbD n &&
      (List.range n).all fun k => !(BitVec.ofNat 8 (2 ^ n)).getLsbD k) = true ∧
    Mapped onDmg ∧ onDmg.cpu.ime = false ∧ onDmg.irq.ifByte &&& onDmg.irq.ieByte &&& 0x1F = 0 :=
  ⟨by decide, mapped (by decide), rfl, by decide⟩

/-- O56: nothing pending, a due entry behind another, and one that still waits. -/
theorem test_witness_pending :
    onDmg.cpu.pending = [] ∧
    (let q : List Deferred := [{ effect := .setIME, remaining := 2 }];
      ({ onDmg.cpu with pending := q ++ [{ effect := .clearIME, remaining := 1 }] } : Cpu).pending =
        q ++ [{ effect := .clearIME, remaining := 1 }] ∧ ∀ d ∈ q, 1 < d.remaining) := by decide

/-- O56: the due DI of a DI, EI sequence before the EI that waits. -/
theorem test_witness_due_before_waiting :
    (let r : List Deferred := [{ effect := .setIME, remaining := 2 }];
      let t := applyPending { onDmg with cpu := { onDmg.cpu with
        ime := true, pending := [] ++ { effect := .clearIME, remaining := 1 } :: r } };
      (∀ d ∈ r, 1 < d.remaining) ∧ t.cpu.ime = false ∧ t.cpu.pending = [{ effect := .setIME, remaining := 1 }]) := by
  decide

/-- O57, O58: a CGB state about to run from work RAM meets the invariant, and its step completes. -/
theorem test_witness_invariant :
    (onCgb.setPc 0xC000).Inv ∧ ∃ t, step (onCgb.setPc 0xC000) = .next t := by
  refine ⟨⟨⟨by decide, by decide, by decide, by decide, by decide, by decide⟩, ?_, ?_, ?_, ?_, rfl⟩, ?_⟩
  · constructor <;> first | unfold Memory.sized; decide | decide
  · exact PpuInv.of_eq ppuInv_cgb rfl
  · constructor <;> decide
  · unfold TimerInv; decide
  · exact ⟨_, rfl⟩

/-- O59, O60: external RAM of one bank with its last byte set; a cartridge with a controller and one without. -/
theorem test_witness_init :
    (cartOf .mbc1 4 1).mbc ≠ .none ∧ Cart.plain.mbc = .none ∧
    Memory.sized [(0x1FFF, 0x5A)] ((cartOf .mbc1 4 1).ramBanks * 0x2000) ∧ Memory.sized [(511, 0x05)] 512 ∧
    Memory.wf [(0x0000, 0x01), (0x7FFF, 0x02)] := by
  unfold Memory.sized
  decide

end Sys2Proof.Tests
end

/-! PROOFS of the statements about the state (spec/10_state.md): the low nibble of F (R36), the I/O addresses that hold
no register (R52), and the machine that has stopped or was refused at its launch (R41, R520, R9). -/

namespace Sys2Proof.Machine

/-! ### The low nibble of F -/

/-- EI and DI leave F alone, every other instruction is `Kept`. -/
theorem exec_keeps_f_low {i : Instr} {s t : State} (hl : s.cpu.f &&& 0x0F = 0) (ht : exec i s = .next t) :
    t.cpu.f &&& 0x0F = 0 := by
  rw [exec_eq_formMeaning] at ht
  rcases form_kept ht with hk | ⟨e, rfl⟩
  · exact hk.low hl
  · exact hl

/-- POP AF takes the high nibble of the byte at SP into F, whatever F was (41_loads16.md R327). -/
theorem f_of_popAf {s t : State} (ht : popPair .af s = .next t) : t.cpu.f = readByte s s.cpu.sp &&& 0xF0 := by
  obtain ⟨x, hx, h⟩ := andThen_eq_next.1 ht
  obtain rfl := pop16_eq_next hx
  cases h
  show loByte (pairOf _ _) &&& 0xF0 = _
  rw [loByte_pairOf]

/-- Settles O36: the case split over all instructions is `form_kept`; POP AF is its pop and its mask. -/
theorem flagLowNibbleStaysZero : Obligations.FlagLowNibbleStaysZero :=
  ⟨fun _ _ _ => exec_keeps_f_low, fun _ s _ hf ht => f_of_popAf ((exec_of_form hf s).symm.trans ht)⟩

/-! ### I/O addresses that hold no register -/

/-- The low address bytes at which the table of R51 and wave RAM leave a gap. -/
theorem ioSlot_eq_unimplemented_iff (b : Byte) : ioSlot b = .unimplemented ↔
    b.toNat = 0x03 ∨ (0x08 ≤ b.toNat ∧ b.toNat ≤ 0x0E) ∨ b.toNat = 0x15 ∨ b.toNat = 0x1F ∨
      (0x27 ≤ b.toNat ∧ b.toNat ≤ 0x2F) ∨ b.toNat = 0x4C ∨ b.toNat = 0x4E ∨ b.toNat = 0x50 ∨
      (0x56 ≤ b.toNat ∧ b.toNat ≤ 0x67) ∨ (0x6C ≤ b.toNat ∧ b.toNat ≤ 0x6F) ∨ 0x71 ≤ b.toNat := by
  revert b
  decide +kernel

/-- The low byte of an address of the I/O page is its offset in the page. -/
theorem loByte_toNat_ioPage {a : Word} (h1 : 0xFF00 ≤ a.toNat) : (loByte a).toNat = a.toNat - 0xFF00 := by
  simp only [loByte, BitVec.extractLsb'_toNat]
  omega

/-- An unimplemented address reads its stored byte of the I/O file. -/
theorem readByte_unimplemented (s : State) {a : Word} (ha : Unimplemented a) :
    readByte s a = s.mem.io.read (a.toNat - 0xFF00) := by
  obtain ⟨h1, h2, hs⟩ := ha
  rw [readByte_ioPage s h1 h2, ioRead, hs, ← loByte_toNat_ioPage h1]

/-- The addresses of the gaps, as R52 lists them. -/
theorem unimplemented_iff_listed (a : Word) : Unimplemented a ↔
    (a.toNat = 0xFF03 ∨ (0xFF08 ≤ a.toNat ∧ a.toNat ≤ 0xFF0E) ∨ a.toNat = 0xFF15 ∨ a.toNat = 0xFF1F ∨
      (0xFF27 ≤ a.toNat ∧ a.toNat ≤ 0xFF2F) ∨ a.toNat = 0xFF4C ∨ a.toNat = 0xFF4E ∨ a.toNat = 0xFF50 ∨
      (0xFF56 ≤ a.toNat ∧ a.toNat ≤ 0xFF67) ∨ (0xFF6C ≤ a.toNat ∧ a.toNat ≤ 0xFF6F) ∨
      (0xFF71 ≤ a.toNat ∧ a.toNat ≤ 0xFF7F)) := by
  by_cases h1 : 0xFF00 ≤ a.toNat
  · rw [Unimplemented, ioSlot_eq_unimplemented_iff, loByte_toNat_ioPage h1]
    omega
  · exact ⟨fun h => absurd h.1 h1, fun h => by omega⟩

/-- Settles O39: the gaps of the I/O table, the fault and the read there, and completion everywhere else. -/
theorem unimplementedWriteFaults : Obligations.UnimplementedWriteFaults :=
  ⟨fun a => (unimplemented_iff_listed a).symm,
    fun s _ v ha => ⟨memWrite_unimplemented s ha v, readByte_unimplemented s ha⟩,
    fun _ _ v hm ha => memWrite_completes hm ha v⟩

/-! ### A recorded stop -/

/-- Recording a stop that is recorded changes nothing. -/
theorem recordStop_same {s : State} {k : StopKind} (h : s.fault = some k) : { s with fault := some k } = s := by
  rw [← h]

/-- A stopped machine stops again as it stopped. -/
theorem step_of_stopped {s : State} {k : StopKind} (h : s.fault = some k) : step s = stopWith k s := by
  simp only [step, machineStep, h]

/-- A running machine of a refused configuration stops with the reason. -/
theorem step_of_configError {s : State} {e : ConfigError} (hf : s.fault = none) (hc : configError s = some e) :
    step s = stopWith (.configuration e) s := by
  simp only [step, machineStep, hf, hc]

/-! ### The header decodes -/

/-- The types of the cartridge table. -/
theorem kindOfCode_isSome_iff (t : Byte) : (Cart.kindOfCode t).isSome ↔
    t ∈ ([0x00, 0x01, 0x02, 0x03, 0x05, 0x06, 0x08, 0x09, 0x0B, 0x0C, 0x0D, 0x0F, 0x10, 0x11, 0x12,
      0x13, 0x19, 0x1A, 0x1B, 0x1C, 0x1D, 0x1E] : List Byte) := by
  revert t
  decide +kernel

theorem romBanksOfCode_isSome_iff (r : Byte) : (Cart.romBanksOfCode r).isSome ↔
    r.toNat ≤ 6 ∨ r = 0x52 ∨ r = 0x53 ∨ r = 0x54 := by
  revert r
  decide +kernel

/-- The ROM sizes 0 to 6 are the powers of two. -/
theorem romBanksOfCode_of_le (r : Byte) : r.toNat ≤ 6 → Cart.romBanksOfCode r = some (2 ^ (r.toNat + 1)) := by
  revert r
  decide +kernel

/-- The RAM-size decode is a table of five entries. -/
theorem ramBanksOfCode_eq_getElem? (a : Byte) : Cart.ramBanksOfCode a = [0, 1, 1, 4, 16][a.toNat]? := by
  revert a
  decide +kernel

theorem ramBanksOfCode_isSome_iff (a : Byte) : (Cart.ramBanksOfCode a).isSome ↔ a.toNat ≤ 4 := by
  rw [ramBanksOfCode_eq_getElem?, isSome_getElem?]
  exact Nat.lt_succ_iff

theorem ofHeader_badType {t : Byte} (r a : Byte) (h : ¬ (Cart.kindOfCode t).isSome) :
    Cart.ofHeader t r a = .error (.cartridgeType t) := by
  simp only [Option.not_isSome_iff_eq_none] at h
  simp only [Cart.ofHeader, h]

theorem ofHeader_badRom {t r : Byte} (a : Byte) (ht : (Cart.kindOfCode t).isSome)
    (h : ¬ (Cart.romBanksOfCode r).isSome) : Cart.ofHeader t r a = .error (.romSizeCode r) := by
  obtain ⟨k, hk⟩ := Option.isSome_iff_exists.1 ht
  simp only [Option.not_isSome_iff_eq_none] at h
  simp only [Cart.ofHeader, hk, h]

theorem ofHeader_badRam {t r a : Byte} (ht : (Cart.kindOfCode t).isSome) (hr : (Cart.romBanksOfCode r).isSome)
    (h : ¬ (Cart.ramBanksOfCode a).isSome) : Cart.ofHeader t r a = .error (.ramSizeCode a) := by
  obtain ⟨k, hk⟩ := Option.isSome_iff_exists.1 ht
  obtain ⟨n, hn⟩ := Option.isSome_iff_exists.1 hr
  simp only [Option.not_isSome_iff_eq_none] at h
  simp only [Cart.ofHeader, hk, hn, h]

/-- A header that is not refused has three bytes that decode, and its banks are what they decode to. -/
theorem ofHeader_ok {t r a : Byte} {c : Cart} (h : Cart.ofHeader t r a = .ok c) :
    (Cart.kindOfCode t).isSome ∧ Cart.romBanksOfCode r = some c.romBanks ∧
      Cart.ramBanksOfCode a = some c.ramBanks := by
  unfold Cart.ofHeader at h
  split at h <;> cases h
  exact ⟨by simp [*], ‹_›, ‹_›⟩

/-- A header is refused exactly when one of its three bytes does not decode. -/
theorem ofHeader_error_iff (t r a : Byte) : (∃ e, Cart.ofHeader t r a = .error e) ↔
    ¬ ((Cart.kindOfCode t).isSome ∧ (Cart.romBanksOfCode r).isSome ∧ (Cart.ramBanksOfCode a).isSome) := by
  constructor
  · rintro ⟨e, he⟩ ⟨ht, hr, ha⟩
    obtain ⟨k, hk⟩ := Option.isSome_iff_exists.1 ht
    obtain ⟨n, hn⟩ := Option.isSome_iff_exists.1 hr
    obtain ⟨m, hm⟩ := Option.isSome_iff_exists.1 ha
    simp [Cart.ofHeader, hk, hn, hm] at he
  · intro hbad
    cases h : Cart.ofHeader t r a with
    | error e => exact ⟨e, rfl⟩
    | ok c =>
      obtain ⟨ht, hr, ha⟩ := ofHeader_ok h
      exact absurd ⟨ht, by simp [hr], by simp [ha]⟩ hbad

/-- The banks of a header that is not refused. -/
theorem banks_of_ofHeader_ok {t r a : Byte} {c : Cart} (h : Cart.ofHeader t r a = .ok c) :
    (r.toNat ≤ 6 → c.romBanks = 2 ^ (r.toNat + 1)) ∧ (r = 0x52 → c.romBanks = 72) ∧ (r = 0x53 → c.romBanks = 80) ∧
      (r = 0x54 → c.romBanks = 96) ∧ [0, 1, 1, 4, 16][a.toNat]? = some c.ramBanks := by
  obtain ⟨-, hr, ha⟩ := ofHeader_ok h
  have rom {n : Nat} (hn : Cart.romBanksOfCode r = some n) : c.romBanks = n := Option.some.inj (hr.symm.trans hn)
  refine ⟨fun hle => rom (romBanksOfCode_of_le r hle), ?_, ?_, ?_, ramBanksOfCode_eq_getElem? a ▸ ha⟩ <;>
    exact fun he => rom (he ▸ rfl)

/-! ### Launching -/

/-- The super-console model is refused at the launch whatever the cartridge. -/
theorem launch_superConsole {t r a : Byte} {c : Cart} (h : Cart.ofHeader t r a = .ok c) (b : Bool)
    (rom ram cells : Memory) :
    (State.launch .sgb t r a b rom ram cells).fault = some (.configuration .superConsole) := by
  simp [State.launch, h, State.checked, configError, State.init]

/-- Settles O10: a stop is answered from its record; a header is refused by the first of its bytes that does not
decode; a launch records its refusal, or is the default `INIT`. -/
theorem stoppedMachineTakesNoStep : Obligations.StoppedMachineTakesNoStep := by
  refine ⟨fun s op h => ?_, fun s h => ?_, fun s a h => ?_, fun s a h => ?_, fun s e h => machineStep_of_refused h,
    fun s hf hm => step_of_configError hf ?_, fun s hf hm hr => step_of_configError hf ?_, ?_, ?_, ?_⟩
  iterate 4 · rw [step_of_stopped h, stopWith, recordStop_same h]
  · rw [configError, if_pos hm]
  · rw [configError, if_neg hm, if_pos hr]
  · intro t r a
    dsimp only
    rw [← kindOfCode_isSome_iff, ← romBanksOfCode_isSome_iff, ← ramBanksOfCode_isSome_iff]
    exact ⟨ofHeader_error_iff t r a, fun ht _ _ => ofHeader_badType r a ht, fun ht hr _ => ofHeader_badRom a ht hr,
      fun ht hr ha => ofHeader_badRam ht hr ha, fun c => banks_of_ofHeader_ok⟩
  · intro m t r a b rom ram cells
    refine ⟨fun e he => ?_, ?_, fun c hc hm => launch_of_ok hc hm b rom ram cells⟩
    · have hf := launch_of_error he m b rom ram cells
      exact ⟨hf, machineStep_of_refused hf⟩
    · rintro c hc rfl
      have hf := launch_superConsole hc b rom ram cells
      exact ⟨hf, machineStep_of_refused hf⟩
  · exact (launch_of_ok (c := Cart.plain) rfl (by decide) false [] [] []).symm

end Sys2Proof.Machine

/-! PROOFS of the statements about memory (spec/20_memory.md) and of the frames of the instructions that touch it. -/

namespace Sys2Proof.Machine

/-! ### What no step changes -/

/-- The parameters of a run and the contents of ROM. -/
structure SameParameters (s t : State) : Prop where
  model : t.model = s.model
  cart : t.cart = s.cart
  rom : t.mem.rom = s.mem.rom

theorem SameParameters.refl (s : State) : SameParameters s s := ⟨rfl, rfl, rfl⟩

theorem SameParameters.trans {s t u : State} (h : SameParameters s t) (k : SameParameters t u) : SameParameters s u :=
  ⟨k.model.trans h.model, k.cart.trans h.cart, k.rom.trans h.rom⟩

theorem WriteFrame.parameters {s t : State} (h : WriteFrame s t) : SameParameters s t := ⟨h.model, h.cart, h.rom⟩

theorem sameParameters_stable (s : State) : Stable (SameParameters s) :=
  ⟨fun _ _ _ h => ⟨h.model, h.cart, h.rom⟩, fun _ _ _ _ h hw => h.trans (memWrite_frame hw).parameters⟩

theorem push16_parameters {v : Word} {s t : State} (h : push16 v s = .next t) : SameParameters s t :=
  (sameParameters_stable s).push16 (.refl s) h

theorem executePhase_parameters {s t : State} (h : executePhase s = .next t) : SameParameters s t := by
  unfold executePhase at h
  dsimp only at h
  split at h
  · cases h
    exact ⟨rfl, rfl, rfl⟩
  · obtain ⟨x, hx, ht⟩ := andThen_eq_next.1 h
    obtain ⟨p, hp⟩ := fetchInstr_pc hx
    exact (sameParameters_stable s).exec (by rw [hp]; exact ⟨rfl, rfl, rfl⟩) ht

theorem ppuDot_parameters {s t : State} (h : ppuDot s = .next t) : SameParameters s t := by
  unfold ppuDot at h
  dsimp only at h
  split_ifs at h
  · cases h
    exact ⟨rfl, rfl, rfl⟩
  · obtain ⟨q, m, d, rfl, -⟩ := enterHblank_eq h
    exact ⟨rfl, rfl, rfl⟩
  · obtain ⟨q, k, o, e, -⟩ := nextLine_eq { s with ppu := { s.ppu with lineDot := s.ppu.lineDot + 1 } }
    rw [e] at h
    cases h
    exact ⟨rfl, rfl, rfl⟩
  · cases h
    exact ⟨rfl, rfl, rfl⟩

theorem ppuDots_parameters {d : Nat} {s t : State} (h : ppuDots d s = .next t) : SameParameters s t := by
  induction d generalizing s with
  | zero =>
    cases h
    exact .refl _
  | succ d ih =>
    obtain ⟨u, hu, ht⟩ := andThen_eq_next.1 h
    exact (ppuDot_parameters hu).trans (ih ht)

theorem ppuAdvance_parameters {d : Nat} {s t : State} (h : ppuAdvance d s = .next t) : SameParameters s t := by
  unfold ppuAdvance at h
  split at h
  · exact ppuDots_parameters h
  · cases h
    exact .refl _

theorem advance_parameters {fast : Bool} {c : Nat} {s t : State} (h : advance fast c s = .next t) :
    SameParameters s t := by
  obtain ⟨u, hu, rfl⟩ := advance_eq_next h
  obtain ⟨d, acc, x, q, e, -⟩ := timerAdvance_eq c s
  obtain ⟨v, o, e', -⟩ := soundAdvance_eq (dotsOf fast c) u
  have timer : SameParameters s (timerAdvance c s) := e ▸ ⟨rfl, rfl, rfl⟩
  have sound : SameParameters u (soundAdvance (dotsOf fast c) u) := e' ▸ ⟨rfl, rfl, rfl⟩
  exact (timer.trans (ppuAdvance_parameters hu)).trans sound

theorem dispatch_parameters {s t : State} (h : dispatch s = .next t) : SameParameters s t := by
  rcases dispatch_eq_next h with ⟨rfl, -⟩ | ⟨-, -, n, u, hu, ha⟩
  · exact .refl _
  · obtain ⟨w, hw, rfl⟩ := takeInterrupt_eq_next hu
    obtain ⟨hm, hc, hr⟩ := push16_parameters hw
    have taken : SameParameters s (w.setPc (interruptVector n)) := ⟨hm, hc, hr⟩
    exact taken.trans (advance_parameters ha)

theorem haltExit_parameters (s : State) : SameParameters s (haltExit s) := by
  unfold haltExit
  split <;> exact ⟨rfl, rfl, rfl⟩

theorem devicePhases_parameters {fast : Bool} {s t : State} (h : devicePhases fast s = .next t) :
    SameParameters s t := by
  obtain ⟨u, hu, ht⟩ := andThen_eq_next.1 h
  have begun : SameParameters s (applyPending (clearStall s)) := ⟨rfl, rfl, rfl⟩
  have serial : SameParameters u (serialTick u) := by
    obtain ⟨p, q, o, e, -⟩ := serialTick_eq u
    exact e ▸ ⟨rfl, rfl, rfl⟩
  exact (begun.trans (advance_parameters hu)).trans
    (serial.trans ((haltExit_parameters _).trans (dispatch_parameters ht)))

/-- Settles O57: the instruction, the devices and the interrupt check each keep the parameters and ROM. -/
theorem stepKeepsParameters : Obligations.StepKeepsParameters := by
  intro s t h
  simp only [step, machineStep] at h
  split at h
  · simp at h
  · simp at h
  · obtain ⟨u, hu, ht⟩ := andThen_eq_next.1 h
    obtain ⟨hm, hc, hr⟩ := (executePhase_parameters hu).trans (devicePhases_parameters ht)
    exact ⟨hm, hc, hr⟩

/-! ### Accesses above the ROM region -/

theorem memRead_aboveRom (s : State) {a : Word} (h : 0x8000 ≤ a.toNat) : memRead s a = .next (readByte s a) := by
  have hr : romRefused s a = false := by simp [romRefused]; omega
  simp [memRead, hr]

theorem memWrite_aboveRom (s : State) {a : Word} (v : Byte) (h : 0x8000 ≤ a.toNat) (hu : unusable a = false) :
    memWrite s a v = storeLoc (locOf s a) v s := by
  unfold memWrite
  rw [if_neg (by omega), hu]
  rfl

theorem unusable_eq_true {a : Word} (h1 : 0xFEA0 ≤ a.toNat) (h2 : a.toNat ≤ 0xFEFF) : unusable a = true := by
  simp [unusable, h1, h2]

theorem unusable_eq_false {a : Word} (h : a.toNat < 0xFEA0 ∨ 0xFEFF < a.toNat) : unusable a = false := by
  simp [unusable]
  omega

/-! ### The mirror and the unusable region -/

theorem locOf_wram (s : State) {a : Word} (h1 : 0xC000 ≤ a.toNat) (h2 : a.toNat ≤ 0xDFFF) :
    locOf s a = wramLoc s a.toNat := by
  simp (disch := omega) only [locOf, if_neg, if_pos]

/-- Both regions lie where the address 0x2000 lower lies (R113, R115). -/
theorem locOf_mirror (s : State) {a : Word}
    (h : (0xE000 ≤ a.toNat ∧ a.toNat ≤ 0xFDFF) ∨ (0xFEA0 ≤ a.toNat ∧ a.toNat ≤ 0xFEFF)) :
    locOf s a = locOf s (a - 0x2000) := by
  have low : (a - 0x2000).toNat = a.toNat - 0x2000 := by bv_omega
  rw [locOf_wram s (a := a - 0x2000) (by omega) (by omega), low]
  rcases h with ⟨h1, h2⟩ | ⟨h1, h2⟩ <;> simp (disch := omega) only [locOf, if_neg, if_pos]

theorem memRead_mirror (s : State) {a : Word}
    (h : (0xE000 ≤ a.toNat ∧ a.toNat ≤ 0xFDFF) ∨ (0xFEA0 ≤ a.toNat ∧ a.toNat ≤ 0xFEFF)) :
    memRead s a = memRead s (a - 0x2000) := by
  rw [memRead_aboveRom s (by omega), memRead_aboveRom s (by bv_omega), readByte, readByte, locOf_mirror s h]

/-- Settles O38: the places agree, neither address is in the ROM region, and only the upper one of the second region is
unusable. -/
theorem mirrorAndUnusable : Obligations.MirrorAndUnusable := by
  refine ⟨fun s a v h1 h2 => ⟨memRead_mirror s (.inl ⟨h1, h2⟩), ?_⟩,
    fun s a v h1 h2 => ⟨memRead_mirror s (.inr ⟨h1, h2⟩), ?_⟩⟩
  · have low : (a - 0x2000).toNat = a.toNat - 0x2000 := by bv_omega
    rw [memWrite_aboveRom s v (by omega) (unusable_eq_false (by omega)),
      memWrite_aboveRom s v (by omega) (unusable_eq_false (by omega)), locOf_mirror s (.inl ⟨h1, h2⟩)]
  · unfold memWrite
    rw [if_neg (by omega), if_pos (unusable_eq_true h1 h2)]

/-! ### The registers of the I/O page -/

/-- An address of the I/O page that holds a register (10_state.md R51). -/
abbrev HoldsReg (a : Word) (r : IoReg) : Prop := 0xFF00 ≤ a.toNat ∧ a.toNat ≤ 0xFF7F ∧ ioSlot (loByte a) = .reg r

/-- On CGB, and for a register not marked CGB, an access to the address is one to the register. -/
theorem memWrite_register {s : State} {a : Word} {r : IoReg} (v : Byte) (ha : HoldsReg a r)
    (h : s.cgb = true ∨ r.storedOnDmg = none) : memWrite s a v = ioRegWrite r v s := by
  obtain ⟨h1, h2, hr⟩ := ha
  rw [memWrite_ioPage s v h1 h2, ioWrite_reg v hr h]

theorem readByte_register {s : State} {a : Word} {r : IoReg} (ha : HoldsReg a r)
    (h : s.cgb = true ∨ r.storedOnDmg = none) : readByte s a = ioRegRead s r := by
  obtain ⟨h1, h2, hr⟩ := ha
  rw [readByte_ioPage s h1 h2, ioRead_reg hr h]

/-- On DMG a register marked CGB is a byte of the I/O file. -/
theorem memWrite_storedOnDmg {s : State} {a : Word} {r : IoReg} {k : Nat} (v : Byte) (ha : HoldsReg a r)
    (hr : r.storedOnDmg = some k) (h : s.cgb = false) : memWrite s a v = .next (storeIo s k v) := by
  obtain ⟨h1, h2, hs⟩ := ha
  rw [memWrite_ioPage s v h1 h2, ioWrite, hs]
  simp [hr, h]

theorem readByte_storedOnDmg {s : State} {a : Word} {r : IoReg} {k : Nat} (ha : HoldsReg a r)
    (hr : r.storedOnDmg = some k) (h : s.cgb = false) : readByte s a = s.mem.io.read k := by
  obtain ⟨h1, h2, hs⟩ := ha
  rw [readByte_ioPage s h1 h2, ioRead, hs]
  simp [hr, h]

theorem cgb_eq_true {s : State} (h : s.model = .cgb) : s.cgb = true := by simp [State.cgb, h]

/-! ### Wave RAM -/

theorem memWrite_wave (s : State) {a : Word} (v : Byte) (h1 : 0xFF30 ≤ a.toNat) (h2 : a.toNat ≤ 0xFF3F) :
    memWrite s a v =
      .next { s with sound := { s.sound with waveRam := s.sound.waveRam.write (a.toNat - 0xFF30) v } } := by
  rw [memWrite_ioPage s v (by omega) (by omega), ioWrite, ioSlot_wave h1 h2]

theorem readByte_wave (s : State) {a : Word} (h1 : 0xFF30 ≤ a.toNat) (h2 : a.toNat ≤ 0xFF3F) :
    readByte s a = s.sound.waveRam.read (a.toNat - 0xFF30) := by
  rw [readByte_ioPage s (by omega) (by omega), ioRead, ioSlot_wave h1 h2]

/-- No address outside wave RAM reads it. -/
theorem readByte_waveRam_other (s : State) (m : Memory) {b : Word} (h : ¬ (0xFF30 ≤ b.toNat ∧ b.toNat ≤ 0xFF3F)) :
    readByte { s with sound := { s.sound with waveRam := m } } b = readByte s b := by
  have slot (hp : 0xFF00 ≤ b.toNat) (i : Nat) : ioSlot (loByte b) ≠ .wave i := by
    intro hw
    have := loByte_toNat_ioPage hp
    simp only [ioSlot] at hw
    split_ifs at hw
    · omega
    · split at hw <;> cases hw
  rw [readByte, readByte]
  show locRead _ (locOf s b) = _
  cases hl : locOf s b
  case io x =>
    obtain ⟨hp, -, rfl⟩ := locOf_io hl
    simp only [locRead, ioRead]
    cases hs : ioSlot (loByte b)
    case wave i => exact absurd hs (slot hp i)
    case reg r => cases r <;> rfl
    case unimplemented => rfl
  all_goals rfl

/-! ### MBC2 cells -/

theorem wramLoc_isWram (s : State) (n : Nat) : ∃ i, wramLoc s n = .wram i := by
  unfold wramLoc
  split <;> exact ⟨_, rfl⟩

/-- MBC2 cells are seen in the external RAM window only. -/
theorem locOf_mbc2ram {s : State} {a : Word} {n : Nat} (h : locOf s a = .mbc2ram n) :
    0xA000 ≤ a.toNat ∧ a.toNat ≤ 0xBFFF := by
  have wram (k : Nat) : wramLoc s k ≠ .mbc2ram n := by
    obtain ⟨i, hi⟩ := wramLoc_isWram s k
    simp [hi]
  simp only [locOf] at h
  split_ifs at h <;> first | exact absurd h (wram _) | omega

/-- A write to an MBC2 cell: the low nibble is kept, the high one reads as 1, every other place reads as before, and
nothing but the cells changes (R131). -/
theorem memWrite_mbc2ram {s : State} {a : Word} (v : Byte) {n : Nat} (h : locOf s a = .mbc2ram n) :
    ∃ t, memWrite s a v = .next t ∧ readByte t a = 0xF0 ||| v ∧ SameBytesBut (.mbc2ram n) s t ∧ SameDevices s t ∧
      t.cpu = s.cpu := by
  have nibble : ∀ v : Byte, 0xF0 ||| (v &&& 0x0F) = 0xF0 ||| v := by decide +kernel
  obtain ⟨h1, h2⟩ := locOf_mbc2ram h
  rw [memWrite_aboveRom s v (by omega) (unusable_eq_false (by omega)), h]
  refine ⟨_, rfl, ?_, fun b hb => ?_, ⟨rfl, rfl, rfl, rfl, rfl, rfl, rfl, rfl, rfl, rfl, rfl, rfl, rfl⟩, rfl⟩
  · rw [readByte, locOf_mem, h]
    simp only [locRead, Memory.read_write_same, nibble]
  · rw [readByte, locOf_mem]
    refine locRead_mem s _ rfl rfl (fun _ _ => rfl) (fun _ _ => rfl) (fun i hi => ?_) (fun _ _ => rfl)
      (fun _ _ => rfl) (fun _ _ => rfl)
    exact Memory.read_write_other _ _ (fun e => hb (by rw [hi, e]))

/-! ### Writes that read back -/

/-- Settles O37: plain memory is `memWrite_plain_spec`; the registers are read and written at the addresses that hold
them; wave RAM is seen at its own sixteen addresses only. -/
theorem plainWriteReadsBack : Obligations.PlainWriteReadsBack := by
  refine ⟨fun s a v h => ?_, fun s a v n h => memWrite_mbc2ram v h, fun s v => ?_, fun s a v h1 h2 => ?_⟩
  · obtain ⟨t, hw, hr, hb, hd, hc, hm, -⟩ := memWrite_plain_spec v h
    exact ⟨t, hw, hr, hb, hd, hc, hm⟩
  · have reg {a : Word} {r : IoReg} (ha : HoldsReg a r) (hr : r.storedOnDmg = none) :
        memWrite s a v = ioRegWrite r v s ∧ readByte s a = ioRegRead s r :=
      ⟨memWrite_register v ha (.inr hr), readByte_register ha (.inr hr)⟩
    exact ⟨reg (r := .ifReg) (by decide) rfl, ⟨rfl, rfl⟩, reg (r := .sb) (by decide) rfl,
      reg (r := .tima) (by decide) rfl, reg (r := .tma) (by decide) rfl, reg (r := .tac) (by decide) rfl,
      reg (r := .scy) (by decide) rfl, reg (r := .scx) (by decide) rfl, reg (r := .bgp) (by decide) rfl,
      reg (r := .obp0) (by decide) rfl, reg (r := .obp1) (by decide) rfl, reg (r := .wy) (by decide) rfl,
      reg (r := .wx) (by decide) rfl⟩
  · refine ⟨_, memWrite_wave s v h1 h2, ?_, rfl, readByte_wave s h1 h2, fun b hb => ?_⟩
    · rw [readByte_wave _ h1 h2]
      exact Memory.read_write_same _ _ _
    · by_cases hw : 0xFF30 ≤ b.toNat ∧ b.toNat ≤ 0xFF3F
      · have hne : b.toNat - 0xFF30 ≠ a.toNat - 0xFF30 := fun e => hb (BitVec.eq_of_toNat_eq (by omega))
        rw [readByte_wave _ hw.1 hw.2, readByte_wave _ hw.1 hw.2]
        exact Memory.read_write_other _ _ hne
      · exact readByte_waveRam_other s _ hw

/-! ### Bank, speed, divider and palette registers -/

theorem getLsbD_zero_eq_odd : ∀ v : Byte, v.getLsbD 0 = decide (v.toNat % 2 = 1) := by decide +kernel

theorem getLsbD_seven_eq_ge : ∀ v : Byte, v.getLsbD 7 = decide (128 ≤ v.toNat) := by decide +kernel

/-- A low field of a byte, as a number. -/
theorem extractLow_eq_ofNat (v : Byte) (n : Nat) : v.extractLsb' 0 n = BitVec.ofNat n v.toNat := by
  apply BitVec.eq_of_toNat_eq
  simp

theorem extractLow_eq_ofNat_mod (v : Byte) (n : Nat) : v.extractLsb' 0 n = BitVec.ofNat n (v.toNat % 2 ^ n) := by
  apply BitVec.eq_of_toNat_eq
  simp

theorem extractLow_eq_zero_iff (v : Byte) (n : Nat) : v.extractLsb' 0 n = 0 ↔ v.toNat % 2 ^ n = 0 := by
  rw [← BitVec.toNat_inj]
  simp

/-- A low field that takes 1 for 0. -/
theorem extractLow_or_one (v : Byte) (n : Nat) : (if v.extractLsb' 0 n = 0 then 1 else v.extractLsb' 0 n) =
    if v.toNat % 2 ^ n = 0 then 1 else BitVec.ofNat n v.toNat :=
  if_congr (extractLow_eq_zero_iff v n) rfl (extractLow_eq_ofNat v n)

theorem paletteIndexWrite_eq (v : Byte) :
    paletteIndexWrite v = { auto := decide (128 ≤ v.toNat), index := BitVec.ofNat 6 (v.toNat % 64) } := by
  rw [paletteIndexWrite, getLsbD_seven_eq_ge, extractLow_eq_ofNat_mod]
  rfl

theorem paletteIndexRead_eq (i : PaletteIndex) :
    paletteIndexRead i = BitVec.ofNat 8 (128 * i.auto.toNat + 0x40 + i.index.toNat) := by
  have all : ∀ (b : Bool) (k : BitVec 6),
      bitAt b 7 ||| 0x40 ||| k.zeroExtend 8 = BitVec.ofNat 8 (128 * b.toNat + 0x40 + k.toNat) := by decide +kernel
  exact all i.auto i.index

theorem afterWrite_eq (i : PaletteIndex) : i.afterWrite =
    if i.auto then { auto := true, index := BitVec.ofNat 6 ((i.index.toNat + 1) % 64) } else i := by
  have next : i.index + 1 = BitVec.ofNat 6 ((i.index.toNat + 1) % 64) := by
    apply BitVec.eq_of_toNat_eq
    simp [BitVec.toNat_add]
  obtain ⟨auto, index⟩ := i
  cases auto
  · rfl
  · exact congrArg (PaletteIndex.mk true) next

/-- KEY1 reads the speed in bit 7, the armed bit in bit 0 and ones between (R515). -/
theorem key1Read_eq : ∀ d a : Bool, bitAt d 7 ||| 0x7E ||| bitAt a 0 =
    BitVec.ofNat 8 (128 * d.toNat + 0x7E + a.toNat) := by decide +kernel

theorem svbkRead_eq : ∀ b : BitVec 3, (0xF8 : Byte) ||| b.zeroExtend 8 = BitVec.ofNat 8 (0xF8 + b.toNat) := by
  decide +kernel

theorem vbkRead_eq (b : Bool) : (0xFE : Byte) ||| bitAt b 0 = if b then 0xFF else 0xFE := by cases b <;> rfl

theorem divRead_eq (d : BitVec 16) : d.extractLsb' 8 8 = BitVec.ofNat 8 (d.toNat / 256) := by
  apply BitVec.eq_of_toNat_eq
  simp [Nat.shiftRight_eq_div_pow]

/-- A word's number from its two bytes. -/
theorem toNat_pairOf (h l : Byte) : (pairOf h l).toNat = h.toNat * 256 + l.toNat := by
  rw [pairOf, BitVec.toNat_append, ← Nat.shiftLeft_add_eq_or_of_lt l.isLt, Nat.shiftLeft_eq]

theorem field_eq {w : Nat} (v : BitVec w) (lo n : Nat) : field v lo n = v.toNat / 2 ^ lo % 2 ^ n := by
  simp [field, Nat.shiftRight_eq_div_pow]

theorem cgbColour_eq (ram : Memory) (p c : Nat) :
    let w := ((ram.read (8 * p + 2 * c + 1)).toNat * 256 + (ram.read (8 * p + 2 * c)).toNat) % 2 ^ 15
    cgbColour ram p c = .colour (BitVec.ofNat 32 (0xFF000000 + w % 32 * 255 / 31 * 65536 +
      w / 32 % 32 * 255 / 31 * 256 + w / 1024 * 255 / 31)) := by
  dsimp only [cgbColour]
  simp only [field_eq, convChannel, toNat_pairOf]
  generalize (ram.read (8 * p + 2 * c + 1)).toNat * 256 + (ram.read (8 * p + 2 * c)).toNat = n
  have red : n / 2 ^ 0 % 2 ^ 5 = n % 2 ^ 15 % 32 := by omega
  have green : n / 2 ^ 5 % 2 ^ 5 = n % 2 ^ 15 / 32 % 32 := by omega
  have blue : n / 2 ^ 10 % 2 ^ 5 = n % 2 ^ 15 / 1024 := by omega
  rw [red, green, blue]

/-- Settles O45: each access is that of its register, and each formula is that of its field. -/
theorem bankSpeedAndDividerRegisters : Obligations.BankSpeedAndDividerRegisters := by
  intro s v
  refine ⟨fun hm => ?_, fun hm => ⟨_, ?_, rfl, ?_⟩, ?_, ?_, fun hm => ?_, fun ram p c _ _ => cgbColour_eq ram p c⟩
  · have write {a : Word} {r : IoReg} (ha : HoldsReg a r) : memWrite s a v = ioRegWrite r v s :=
      memWrite_register v ha (.inl (cgb_eq_true hm))
    have read {a : Word} {r : IoReg} (ha : HoldsReg a r) : readByte s a = ioRegRead s r :=
      readByte_register ha (.inl (cgb_eq_true hm))
    refine ⟨(write (r := .vbk) (by decide)).trans ?_, (read (r := .vbk) (by decide)).trans (vbkRead_eq _),
      (write (r := .svbk) (by decide)).trans ?_, (read (r := .svbk) (by decide)).trans (svbkRead_eq _),
      (write (r := .key1) (by decide)).trans ?_, (read (r := .key1) (by decide)).trans (key1Read_eq _ _)⟩
    · rw [ioRegWrite, getLsbD_zero_eq_odd, State.setMbc]
    · rw [ioRegWrite, extractLow_or_one, State.setMbc]
      rfl
    · rw [ioRegWrite, getLsbD_zero_eq_odd]
  · exact memWrite_storedOnDmg (r := .key1) v (by decide) rfl (by simp [State.cgb, hm])
  · exact readByte_storedOnDmg (r := .key1) (by decide) rfl (by simp [State.cgb, hm])
  · exact memWrite_register (r := .div) v (by decide) (.inr rfl)
  · exact (readByte_register (r := .div) (by decide) (.inr rfl)).trans (divRead_eq _)
  · have write {a : Word} {r : IoReg} (ha : HoldsReg a r) : memWrite s a v = ioRegWrite r v s :=
      memWrite_register v ha (.inl (cgb_eq_true hm))
    have read {a : Word} {r : IoReg} (ha : HoldsReg a r) : readByte s a = ioRegRead s r :=
      readByte_register ha (.inl (cgb_eq_true hm))
    refine ⟨(write (r := .bcps) (by decide)).trans ?_, (read (r := .bcps) (by decide)).trans (paletteIndexRead_eq _),
      (write (r := .bcpd) (by decide)).trans ?_, read (r := .bcpd) (by decide),
      (write (r := .ocps) (by decide)).trans ?_, (read (r := .ocps) (by decide)).trans (paletteIndexRead_eq _),
      (write (r := .ocpd) (by decide)).trans ?_, read (r := .ocpd) (by decide)⟩
    · rw [ioRegWrite, paletteIndexWrite_eq]
    · rw [ioRegWrite, bcpdWrite, afterWrite_eq]
    · rw [ioRegWrite, paletteIndexWrite_eq]
    · rw [ioRegWrite, ocpdWrite, afterWrite_eq]

/-! ### External RAM -/

/-- Open bus reads 0xFF and takes nothing (R117). -/
theorem ext_of_openBus {s : State} {a : Word} (v : Byte) (h1 : 0xA000 ≤ a.toNat) (h2 : a.toNat ≤ 0xBFFF)
    (h : extLoc s (a.toNat - 0xA000) = .openBus) : readByte s a = 0xFF ∧ memWrite s a v = .next s := by
  rw [readByte_ext s h1 h2, memWrite_ext s v h1 h2, h]
  exact ⟨rfl, rfl⟩

theorem ext_of_eram {s : State} {a : Word} (v : Byte) {k : Nat} (h1 : 0xA000 ≤ a.toNat) (h2 : a.toNat ≤ 0xBFFF)
    (h : extLoc s (a.toNat - 0xA000) = .eram k) : readByte s a = s.mem.eram.read k ∧
      memWrite s a v = .next { s with mem := { s.mem with eram := s.mem.eram.write k v } } := by
  rw [readByte_ext s h1 h2, memWrite_ext s v h1 h2, h]
  exact ⟨rfl, rfl⟩

theorem eramLoc_noBank {s : State} (off : Nat) (h : ramBankEff s = none) : eramLoc s off = .openBus := by
  rw [eramLoc, h]

theorem eramLoc_noRam {s : State} (off : Nat) (h : s.cart.ramBanks = 0) : eramLoc s off = .openBus := by
  unfold eramLoc
  split
  · rfl
  · rw [if_pos h]

theorem eramLoc_bank {s : State} (off : Nat) {b : Nat} (hb : ramBankEff s = some b) (h : 0 < s.cart.ramBanks) :
    eramLoc s off = .eram (b % s.cart.ramBanks * 0x2000 + off) := by
  rw [eramLoc, hb]
  exact if_neg (by omega)

/-- The window of a closed controller is open bus. -/
theorem extLoc_closed {s : State} (off : Nat) (h : ramEnabled s = false) : extLoc s off = .openBus := by
  rw [extLoc, if_pos h]

/-- The controllers whose window shows plain external RAM: all but MBC2, and MBC3 with no clock register mapped. -/
def ShowsEram (s : State) : Prop :=
  s.cart.mbc = .none ∨ s.cart.mbc = .mbc1 ∨ s.cart.mbc = .mbc5 ∨ (s.cart.mbc = .mbc3 ∧ s.mbc.rtcSelect = none)

theorem extLoc_open {s : State} (off : Nat) (h : ShowsEram s) (he : ramEnabled s = true) :
    extLoc s off = eramLoc s off := by
  rcases h with h | h | h | ⟨h, hr⟩ <;> simp [extLoc, *]

/-- Where there is nothing to show the window is open bus, whatever the gate. -/
theorem extLoc_openBus {s : State} {off : Nat} (h : ShowsEram s) (ho : eramLoc s off = .openBus) :
    extLoc s off = .openBus := by
  cases he : ramEnabled s
  · exact extLoc_closed off he
  · rw [extLoc_open off h he, ho]

/-- The clock byte that is set reads back, and the others are kept. -/
theorem rtcByte_setRtcByte (b : RtcBytes) (r q : RtcReg) (v : Byte) :
    rtcByte (setRtcByte b r v) q = if q = r then v else rtcByte b q := by
  cases r <;> cases q <;> rfl

theorem lowNibble_eq_ofNat : ∀ v : Byte, v &&& 0x0F = BitVec.ofNat 8 (v.toNat % 16) := by decide +kernel

/-- Settles O40: each clause names what the window shows, and the access is the one there. -/
theorem externalRamGate : Obligations.ExternalRamGate := by
  intro s a v h1 h2
  refine ⟨fun hm he => ?_, fun hm hb => ?_, fun hm hr => ?_, fun hm hr => ?_, fun hm he hr => ?_,
    fun b hm he hb hr => ?_, fun hm he => ?_, fun r hm he hr => ?_⟩
  · refine ext_of_openBus v h1 h2 (extLoc_closed _ ?_)
    rcases hm with hm | hm | hm | hm <;> simp [ramEnabled, hm, he]
  · have shows : ShowsEram s := hm.elim (fun h => .inr (.inr (.inl h))) (fun h => .inr (.inr (.inr h)))
    refine ext_of_openBus v h1 h2 (extLoc_openBus shows (eramLoc_noBank _ ?_))
    rcases hm with hm | ⟨hm, -⟩ <;> simp [ramBankEff, hm, hb]
  · exact ext_of_openBus v h1 h2 (extLoc_openBus hm (eramLoc_noRam _ hr))
  · refine ext_of_eram v h1 h2 ?_
    rw [extLoc_open _ (.inl hm) (by simp [ramEnabled, hm]), eramLoc_bank (b := 0) _ (by simp [ramBankEff, hm]) hr]
    simp
  · refine ext_of_eram v h1 h2 ?_
    have bank : ramBankEff s = some (if s.mbc.mbc1Mode then s.mbc.mbc1Upper.toNat else 0) := by rw [ramBankEff, hm]
    rw [extLoc_open _ (.inr (.inl hm)) (by simp [ramEnabled, hm, he]), eramLoc_bank _ bank hr]
  · have shows : ShowsEram s := hm.elim (fun h => .inr (.inr (.inl h))) (fun h => .inr (.inr (.inr h)))
    have enabled : ramEnabled s = true := by rcases hm with hm | ⟨hm, -⟩ <;> simp [ramEnabled, hm, he]
    have bank : ramBankEff s = some b.toNat := by rcases hm with hm | ⟨hm, -⟩ <;> simp [ramBankEff, hm, hb]
    exact ext_of_eram v h1 h2 (by rw [extLoc_open _ shows enabled, eramLoc_bank _ bank hr])
  · have cell : extLoc s (a.toNat - 0xA000) = .mbc2ram (a.toNat % 512) := by
      have : (a.toNat - 0xA000) % 512 = a.toNat % 512 := by omega
      simp [extLoc, ramEnabled, hm, he, this]
    rw [readByte_ext s h1 h2, memWrite_ext s v h1 h2, cell, ← lowNibble_eq_ofNat]
    exact ⟨rfl, rfl⟩
  · have clock : extLoc s (a.toNat - 0xA000) = .rtc r := by simp [extLoc, ramEnabled, hm, he, hr]
    rw [readByte_ext s h1 h2, memWrite_ext s v h1 h2, clock]
    refine ⟨rfl, setRtcByte s.mbc.rtcLatched r v, ?_, ?_, fun q hq => ?_⟩
    · rw [storeLoc, rtcWrite_eq]
    · rw [rtcByte_setRtcByte, if_pos rfl]
    · rw [rtcByte_setRtcByte, if_neg hq]

/-! ### Controllers -/

theorem ramGate_eq : ∀ v : Byte, ramGate v = decide (v.toNat % 16 = 10) := by decide +kernel

/-- 0x0000..0x3FFF reads bank 0 on every controller but MMM01 (R120). -/
theorem readByte_romBank0 {s : State} {a : Word} (h : a.toNat ≤ 0x3FFF) (hm : s.cart.mbc ≠ .mmm01) :
    readByte s a = s.mem.rom.read a.toNat := by
  have bank : romLowBankEff s = 0 := by
    unfold romLowBankEff
    split
    · exact absurd ‹_› hm
    · rfl
  rw [readByte_romLow s h, bank, Nat.zero_mul, Nat.zero_add]

/-- Settles O41: the write is MBC1's register write in the quarter it falls in. -/
theorem mbc1Banking : Obligations.Mbc1Banking := by
  intro s a v hm
  have notMmm01 : s.cart.mbc ≠ .mmm01 := by simp [hm]
  have write (h : a.toNat ≤ 0x7FFF) : memWrite s a v = .next (s.setMbc (mbc1Write a.toNat v s.mbc)) := by
    rw [memWrite_rom s v h notMmm01, mbcWrite, hm]
  refine ⟨fun h => ?_, fun h1 h2 => ?_, fun h1 h2 => ?_, fun h1 h2 => ?_, fun h => readByte_romBank0 h notMmm01,
    fun h1 h2 => ?_⟩
  · rw [write (by omega), mbc1Write, if_pos h, ramGate_eq]
    rfl
  · rw [write (by omega), mbc1Write, if_neg (by omega), if_pos h2, extractLow_or_one]
    rfl
  · rw [write (by omega), mbc1Write, if_neg (by omega), if_neg (by omega), if_pos h2, extractLow_eq_ofNat]
    rfl
  · rw [write (by omega), mbc1Write, if_neg (by omega), if_neg (by omega), if_neg (by omega), getLsbD_zero_eq_odd]
    rfl
  · rw [readByte_romHigh s h1 h2, romBankEff, hm]
    simp only [Nat.mul_comm 32]

/-- A low field of a byte in a wider register. -/
theorem extractLow_zeroExtend (v : Byte) (n w : Nat) :
    (v.extractLsb' 0 n).zeroExtend w = BitVec.ofNat w (v.toNat % 2 ^ n) := by
  apply BitVec.eq_of_toNat_eq
  simp

/-- A low field in a bank register of nine bits that takes 1 for 0 (R130, R140). -/
theorem bankField_eq (v : Byte) (n : Nat) :
    (if v.extractLsb' 0 n = 0 then 1 else (v.extractLsb' 0 n).zeroExtend 9) =
      if v.toNat % 2 ^ n = 0 then 1 else BitVec.ofNat 9 (v.toNat % 2 ^ n) :=
  if_congr (extractLow_eq_zero_iff v n) rfl (extractLow_zeroExtend v n 9)

/-- The clock registers in the order of their select values (R141). -/
theorem rtcSelected_eq : ∀ v : Byte, rtcSelected v = if 8 ≤ v.toNat then
    ([.seconds, .minutes, .hours, .dayLow, .dayHigh] : List RtcReg)[v.toNat - 8]? else none := by decide +kernel

theorem mbc3Select_eq (hasRtc : Bool) (v : Byte) (m : Mbc) : mbc3Select hasRtc v m = { m with
    ramBank := if v.toNat ≤ 3 then some (BitVec.ofNat 4 v.toNat) else none
    rtcSelect := if hasRtc = true ∧ 8 ≤ v.toNat then
      ([.seconds, .minutes, .hours, .dayLow, .dayHigh] : List RtcReg)[v.toNat - 8]? else none } := by
  unfold mbc3Select
  by_cases h : v.toNat ≤ 3
  · rw [if_pos h, if_pos h, if_neg (by omega), extractLow_eq_ofNat]
  · rw [if_neg h, if_neg h, rtcSelected_eq]
    cases hasRtc <;> simp

/-- MBC5's bank register takes its low byte and its high bit in two writes (R146). -/
theorem romBank_lowWrite (r : BitVec 9) (v : Byte) :
    r.extractLsb' 8 1 ++ v = BitVec.ofNat 9 (r.toNat / 256 * 256 + v.toNat) := by
  have := r.isLt
  apply BitVec.eq_of_toNat_eq
  rw [BitVec.toNat_append, ← Nat.shiftLeft_add_eq_or_of_lt v.isLt, Nat.shiftLeft_eq]
  simp [Nat.shiftRight_eq_div_pow]
  omega

theorem romBank_highWrite (r : BitVec 9) (v : Byte) :
    v.extractLsb' 0 1 ++ r.extractLsb' 0 8 = BitVec.ofNat 9 (v.toNat % 2 * 256 + r.toNat % 256) := by
  apply BitVec.eq_of_toNat_eq
  rw [BitVec.toNat_append, ← Nat.shiftLeft_add_eq_or_of_lt (r.extractLsb' 0 8).isLt, Nat.shiftLeft_eq]
  simp
  omega

/-- MBC5's RAM bank register with the motor: the bank is the low three bits, and a change of the rumble bit is told to
the host (R147). -/
theorem mbc5Bank_rumble {s : State} (v : Byte) (h : s.cart.hasRumble = true) : mbc5Bank v s = { s with
    mbc := { s.mbc with rumble := v.getLsbD 3, ramBank := some (BitVec.ofNat 4 (v.toNat % 8)) }
    host := { s.host with sent := (if v.getLsbD 3 = s.mbc.rumble then s.host.sent
      else .rumble (v.getLsbD 3) :: s.host.sent) } } := by
  rw [mbc5Bank, if_pos h, extractLow_zeroExtend]
  by_cases hr : v.getLsbD 3 = s.mbc.rumble
  · rw [if_pos hr, if_pos hr]
    rfl
  · rw [if_neg hr, if_neg hr]
    rfl

/-- Settles O42: the write is the register write of the controller in the part of the ROM region it falls in. -/
theorem otherControllers : Obligations.OtherControllers := by
  intro s a v ha
  have write (hm : s.cart.mbc ≠ .mmm01) : memWrite s a v = .next (mbcWrite a v s) := memWrite_rom s v ha hm
  refine ⟨fun hm => ⟨fun h => readByte_romBank0 h hm, fun h => readByte_romHigh s h ha⟩, fun hm => ⟨?_, ?_⟩,
    fun hm => ?_, fun hm => ?_, fun hm => ?_⟩
  · rw [write (by simp [hm]), mbcWrite, hm]
  · rw [romBankEff, hm]
  · rw [write (by simp [hm]), mbcWrite, hm]
    refine ⟨fun h hb => ?_, fun h hb => ?_, fun h => ?_, by rw [romBankEff, hm]⟩
    · rw [mbc2Write, if_pos h, if_pos hb, ramGate_eq]
      rfl
    · rw [mbc2Write, if_pos h, if_neg (by omega), bankField_eq]
      rfl
    · rw [mbc2Write, if_neg (by omega)]
      rfl
  · rw [write (by simp [hm]), mbcWrite, hm]
    dsimp only [mbc3Write]
    refine ⟨fun h => ?_, fun h1 h2 => ?_, fun h1 h2 => ?_, fun h hl => ?_, fun h hl hv => ?_, by rw [romBankEff, hm]⟩
    · rw [if_pos h, ramGate_eq]
      rfl
    · rw [if_neg (by omega), if_pos h2, bankField_eq]
      rfl
    · rw [if_neg (by omega), if_neg (by omega), if_pos h2, mbc3Select_eq]
      rfl
    · have noEdge : (!s.mbc.rtcLatchLast && v.getLsbD 0) = false := by
        rw [getLsbD_zero_eq_odd]
        rcases hl with hl | hl <;> simp [hl]
      rw [if_neg (by omega), if_neg (by omega), if_neg (by omega), noEdge, getLsbD_zero_eq_odd]
      rfl
    · have edge : (!s.mbc.rtcLatchLast && v.getLsbD 0) = true := by simp [getLsbD_zero_eq_odd, hl, hv]
      have bit : v.getLsbD 0 = true := by simp [getLsbD_zero_eq_odd, hv]
      rw [if_neg (by omega), if_neg (by omega), if_neg (by omega), edge, bit]
      rfl
  · rw [write (by simp [hm]), mbcWrite, hm]
    dsimp only [mbc5Write]
    refine ⟨fun h => ?_, fun h1 h2 hr => ?_, fun h1 h2 hr => ?_, fun h => ?_, fun h1 h2 => ?_, fun h1 h2 => ?_, ?_⟩
    · rw [if_pos h, ramGate_eq]
      rfl
    · rw [if_neg (by omega), if_neg (by omega), if_neg (by omega), if_pos h2, mbc5Bank, if_neg (by simp [hr]),
        extractLow_eq_ofNat_mod]
      rfl
    · rw [if_neg (by omega), if_neg (by omega), if_neg (by omega), if_pos h2, mbc5Bank_rumble v hr]
    · rw [if_neg (by omega), if_neg (by omega), if_neg (by omega), if_neg (by omega)]
    · rw [if_neg (by omega), if_pos h2, romBank_lowWrite]
      rfl
    · rw [if_neg (by omega), if_neg (by omega), if_pos h2, romBank_highWrite]
      rfl
    · rw [romBankEff, hm]

/-! ### OAM DMA -/

/-- OAM is seen at its own 160 addresses only. -/
theorem locOf_oam {s : State} {a : Word} {k : Nat} (h : locOf s a = .oam k) :
    0xFE00 ≤ a.toNat ∧ a.toNat ≤ 0xFE9F ∧ k = a.toNat - 0xFE00 := by
  have wram (n : Nat) : wramLoc s n ≠ .oam k := by
    obtain ⟨i, hi⟩ := wramLoc_isWram s n
    simp [hi]
  have ext (n : Nat) : extLoc s n ≠ .oam k := by
    unfold extLoc eramLoc
    repeat' split
    all_goals exact nofun
  simp only [locOf] at h
  split_ifs at h <;> simp only [wram, ext, Loc.oam.injEq] at h
  exact ⟨by omega, by omega, h.symm⟩

/-- Storing a byte of OAM leaves every byte elsewhere as it reads. -/
theorem readByte_oamWrite_other {s : State} {a : Word} {i : Nat} (v : Byte) (h : locOf s a ≠ .oam i) :
    readByte { s with mem := { s.mem with oam := s.mem.oam.write i v } } a = readByte s a := by
  rw [readByte, locOf_mem]
  exact locRead_mem s _ rfl rfl (fun _ _ => rfl) (fun _ _ => rfl) (fun _ _ => rfl) (fun _ _ => rfl)
    (fun k hk => Memory.read_write_other _ _ (fun e => h (by rw [hk, e]))) (fun _ _ => rfl)

/-- The copy puts each source byte, as it reads before the copy, at its index, if no source address lies in OAM but at
the index it is copied to. -/
theorem oamCopy_reads {src : Word} {n i : Nat} {s t : State} (hn : i + n ≤ 160)
    (hsrc : ∀ j k, j < 160 → locOf s (src + BitVec.ofNat 16 j) = .oam k → k = j) (h : oamCopy src n i s = .next t) :
    (∀ j, i ≤ j → j < i + n → t.mem.oam.read j = readByte s (src + BitVec.ofNat 16 j)) ∧
      (∀ j, j < i ∨ i + n ≤ j → t.mem.oam.read j = s.mem.oam.read j) := by
  induction n generalizing i s with
  | zero =>
    cases h
    exact ⟨fun j h1 h2 => absurd h2 (by omega), fun _ _ => rfl⟩
  | succ n ih =>
    obtain ⟨v, hv, ht⟩ := andThen_eq_next.1 h
    obtain rfl := memRead_eq_next hv
    obtain ⟨copied, kept⟩ := ih (i := i + 1) (by omega) (by exact hsrc) ht
    refine ⟨fun j h1 h2 => ?_, fun j hj => ?_⟩
    · by_cases he : j = i
      · rw [he, kept i (by omega)]
        exact Memory.read_write_same _ _ _
      · rw [copied j (by omega) (by omega)]
        exact readByte_oamWrite_other _ (fun hl => he (hsrc j i (by omega) hl).symm)
    · rw [kept j (by omega)]
      exact Memory.read_write_other _ _ (by omega)

/-- The source of an OAM DMA in numbers (R155). -/
theorem dmaSource_eq (v : Byte) (j : Nat) :
    pairOf v 0 + BitVec.ofNat 16 j = BitVec.ofNat 16 (v.toNat * 256 + j) := by
  apply BitVec.eq_of_toNat_eq
  simp [BitVec.toNat_add, toNat_pairOf]

/-- Settles O43: the copy's frame is `oamCopy_eq`; a source of 160 bytes from a multiple of 256 meets OAM only in OAM
itself, byte by byte. -/
theorem oamDmaCopies : Obligations.OamDmaCopies := by
  intro s v hm s1
  have write : memWrite s 0xFF46 v = oamDma v s := memWrite_register (r := .dma) v (by decide) (.inr rfl)
  have source (j k : Nat) (hj : j < 160) (hk : locOf s1 (pairOf v 0 + BitVec.ofNat 16 j) = .oam k) : k = j := by
    obtain ⟨h1, h2, h3⟩ := locOf_oam hk
    have := v.isLt
    rw [dmaSource_eq, BitVec.toNat_ofNat] at h1 h2 h3
    omega
  obtain ⟨t, ht⟩ := oamCopy_completes (pairOf v 0) 160 0 (s := s1) hm
  obtain ⟨copied, kept⟩ := oamCopy_reads (by omega) source ht
  obtain ⟨m, rfl⟩ := oamCopy_eq ht
  refine ⟨_, m, write.trans ht, rfl, fun i hi => ?_, fun i hi => kept i (by omega)⟩
  rw [← dmaSource_eq]
  exact copied i (by omega) (by omega)

/-! ### HDMA blocks -/

/-- Where byte `j` of the next block goes, as an offset into VRAM (R163). -/
def blockPlace (s : State) (j : Nat) : Nat := vramBankEff s * 0x2000 + (s.hdma.dst.toNat + j) % 0x2000

/-- Byte `j` of the block that starts in `s`, copied in a state `t` within it. -/
def copyBlockByte (s t : State) (j : Nat) : State := { t with mem := { t.mem with
  vram := t.mem.vram.write (blockPlace s j) (readByte t (s.hdma.src + BitVec.ofNat 16 j)) } }

/-- A block is its bytes copied one after another; the bytes before moved neither the bank nor the addresses. -/
theorem hdmaBytes_eq_foldl {s t : State} (n j : Nat) (hm : Mapped t) (hd : t.hdma = s.hdma)
    (hb : vramBankEff t = vramBankEff s) : hdmaBytes n j t = .next ((List.range' j n).foldl (copyBlockByte s) t) := by
  induction n generalizing j t with
  | zero => rfl
  | succ n ih =>
    have place : vramBankEff t * 0x2000 + (t.hdma.dst.toNat + j) % 0x2000 = blockPlace s j := by rw [hd, hb, blockPlace]
    have source : t.hdma.src = s.hdma.src := by rw [hd]
    rw [hdmaBytes, memRead_mapped hm, andThen_next, place, source, List.range'_succ, List.foldl_cons]
    exact ih (t := copyBlockByte s t j) (j + 1) hm hd hb

theorem hdmaBlock_eq_foldl {s : State} (hm : Mapped s) : hdmaBlock s =
    .next { (List.range 16).foldl (copyBlockByte s) s with
      hdma := { s.hdma with src := s.hdma.src + 16, dst := (s.hdma.dst + 16) &&& 0x1FFF } } := by
  have bytes := hdmaBytes_eq_foldl 16 0 hm (rfl : s.hdma = s.hdma) rfl
  obtain ⟨m, hu⟩ := hdmaBytes_eq bytes
  rw [hdmaBlock, bytes, List.range_eq_range', andThen_next, hu]

/-- The sixteen places of a block differ. -/
theorem blockPlace_injective (s : State) {i j : Nat} (hi : i < 16) (hj : j < 16) (h : blockPlace s i = blockPlace s j) :
    i = j := by
  unfold blockPlace at h
  omega

/-- Storing a byte of VRAM leaves every byte elsewhere as it reads. -/
theorem readByte_vramWrite_other {s : State} {a : Word} (m : Memory) (h : ∀ n, locOf s a ≠ .vram n) :
    readByte { s with mem := { s.mem with vram := m } } a = readByte s a := by
  rw [readByte, locOf_mem]
  exact locRead_mem s _ rfl rfl (fun k hk => absurd hk (h k)) (fun _ _ => rfl) (fun _ _ => rfl) (fun _ _ => rfl)
    (fun _ _ => rfl) (fun _ _ => rfl)

/-- From a source outside VRAM the first `n` bytes of a block are the source bytes at their places, and the rest of VRAM
is kept. -/
theorem copyBlock_reads {s : State} {n : Nat} (hn : n ≤ 16)
    (hsrc : ∀ j k, j < 16 → locOf s (s.hdma.src + BitVec.ofNat 16 j) ≠ .vram k) :
    ∃ m, (List.range n).foldl (copyBlockByte s) s = { s with mem := { s.mem with vram := m } } ∧
      (∀ j, j < n → m.read (blockPlace s j) = readByte s (s.hdma.src + BitVec.ofNat 16 j)) ∧
      (∀ k, (∀ j, j < n → k ≠ blockPlace s j) → m.read k = s.mem.vram.read k) := by
  induction n with
  | zero => exact ⟨s.mem.vram, rfl, fun j hj => absurd hj (by omega), fun _ _ => rfl⟩
  | succ n ih =>
    obtain ⟨m, hm, copied, kept⟩ := ih (by omega)
    refine ⟨m.write (blockPlace s n) (readByte s (s.hdma.src + BitVec.ofNat 16 n)), ?_, fun j hj => ?_, fun k hk => ?_⟩
    · rw [List.range_succ, List.foldl_append, hm, List.foldl_cons, List.foldl_nil, copyBlockByte,
        readByte_vramWrite_other m (hsrc n · (by omega))]
    · by_cases he : j = n
      · rw [he, Memory.read_write_same]
      · rw [Memory.read_write_other _ _ (fun h => he (blockPlace_injective s (by omega) (by omega) h)),
          copied j (by omega)]
    · rw [Memory.read_write_other _ _ (hk n (by omega)), kept k (fun j hj => hk j (by omega))]

/-! ### Runs of blocks -/

/-- The state after a block, where it completes. -/
def afterBlock (s : State) : State :=
  match hdmaBlock s with
  | .next t => t
  | _ => s

theorem hdmaBlock_eq_afterBlock {s : State} (hm : Mapped s) : hdmaBlock s = .next (afterBlock s) := by
  obtain ⟨t, ht⟩ := hdmaBlock_completes hm
  rw [afterBlock, ht]

/-- What a block leaves, but for the bytes in VRAM. -/
theorem afterBlock_eq {s : State} (hm : Mapped s) : ∃ m, afterBlock s = { s with
    mem := { s.mem with vram := m }
    hdma := { s.hdma with src := s.hdma.src + 16, dst := (s.hdma.dst + 16) &&& 0x1FFF } } :=
  hdmaBlock_eq (hdmaBlock_eq_afterBlock hm)

theorem ofNat_sixteen_mul_succ (k : Nat) : BitVec.ofNat 16 (16 * (k + 1)) = BitVec.ofNat 16 (16 * k) + 16 := by
  rw [Nat.mul_succ, BitVec.ofNat_add]
  rfl

/-- What `k` blocks leave, but for the bytes in VRAM and the destination. -/
theorem afterBlocks_eq {s : State} (hm : Mapped s) (k : Nat) : ∃ m d, afterBlock^[k] s = { s with
    mem := { s.mem with vram := m }
    hdma := { s.hdma with src := s.hdma.src + BitVec.ofNat 16 (16 * k), dst := d } } := by
  induction k with
  | zero => exact ⟨s.mem.vram, s.hdma.dst, by simp⟩
  | succ k ih =>
    obtain ⟨m, d, hk⟩ := ih
    obtain ⟨m', hb⟩ := afterBlock_eq (s := afterBlock^[k] s) (by rw [hk]; exact hm)
    rw [Function.iterate_succ_apply', hb, hk, ofNat_sixteen_mul_succ, ← BitVec.add_assoc]
    exact ⟨m', _, rfl⟩

theorem mapped_afterBlocks {s : State} (hm : Mapped s) (k : Nat) : Mapped (afterBlock^[k] s) := by
  obtain ⟨m, d, hk⟩ := afterBlocks_eq hm k
  rw [hk]
  exact hm

theorem hdmaBlocks_eq_iterate {s : State} (hm : Mapped s) (n : Nat) : hdmaBlocks n s = .next (afterBlock^[n] s) := by
  induction n generalizing s with
  | zero => rfl
  | succ n ih =>
    rw [hdmaBlocks, hdmaBlock_eq_afterBlock hm, andThen_next]
    exact ih (mapped_afterBlocks hm 1)

/-- The destination is kept modulo 0x2000, so it moves on as it would unmasked. -/
theorem mask_add_mask (d x : Word) : ((d &&& 0x1FFF) + x) &&& 0x1FFF = (d + x) &&& 0x1FFF := by
  have mask (y : Word) : (y &&& 0x1FFF).toNat = y.toNat % 0x2000 := by
    rw [BitVec.toNat_and]
    exact Nat.and_two_pow_sub_one_eq_mod y.toNat 13
  apply BitVec.eq_of_toNat_eq
  rw [mask, mask, BitVec.toNat_add, BitVec.toNat_add, mask]
  omega

theorem dst_afterBlocks {s : State} (hm : Mapped s) (k : Nat) :
    (afterBlock^[k + 1] s).hdma.dst = (s.hdma.dst + BitVec.ofNat 16 (16 * (k + 1))) &&& 0x1FFF := by
  have step (n : Nat) : (afterBlock^[n + 1] s).hdma.dst = ((afterBlock^[n] s).hdma.dst + 16) &&& 0x1FFF := by
    obtain ⟨m, hb⟩ := afterBlock_eq (mapped_afterBlocks hm n)
    rw [Function.iterate_succ_apply', hb]
  induction k with
  | zero => exact step 0
  | succ k ih =>
    rw [step, ih, mask_add_mask, BitVec.add_assoc, ← ofNat_sixteen_mul_succ]

/-! ### HDMA registers -/

/-- The length of a transfer in blocks, from the low seven bits of HDMA5 (R162). -/
theorem blockCount_eq (v : Byte) : field v 0 7 + 1 = v.toNat % 128 + 1 := by
  rw [field_eq, Nat.pow_zero, Nat.div_one]
  norm_num

/-- A general-purpose transfer: the blocks, their cost, and a read of 0xFF (R162, R165). -/
theorem hdma5Write_general {s : State} {v : Byte} (hm : Mapped s) (hh : s.hdma.hblank = false) (hv : v.toNat < 128) :
    hdma5Write v s = .next { afterBlock^[v.toNat + 1] s with
      hdma := { (afterBlock^[v.toNat + 1] s).hdma with left := 0 }
      extra := s.extra + (v.toNat + 1) * (if s.cpu.doubleSpeed then 64 else 32) } := by
  have bit : v.getLsbD 7 = false := (getLsbD_seven_eq_ge v).trans (decide_eq_false (by omega))
  have count : field v 0 7 + 1 = v.toNat + 1 := by rw [blockCount_eq]; omega
  obtain ⟨m, d, hk⟩ := afterBlocks_eq hm (v.toNat + 1)
  rw [hdma5Write, if_neg (by simp [hh]), if_pos bit, count]
  dsimp only
  rw [hdmaBlocks_eq_iterate hm, andThen_next, hk]
  rfl

theorem hdma5Write_arm {s : State} {v : Byte} (hv : 128 ≤ v.toNat) :
    hdma5Write v s = .next { s with hdma := { s.hdma with hblank := true, left := v.toNat - 127 } } := by
  have bit : v.getLsbD 7 = true := (getLsbD_seven_eq_ge v).trans (decide_eq_true hv)
  have count : field v 0 7 + 1 = v.toNat - 127 := by rw [blockCount_eq]; omega
  rw [hdma5Write, if_neg (by simp [bit]), if_neg (by simp [bit]), count]

theorem hdma5Write_cancel {s : State} {v : Byte} (hh : s.hdma.hblank = true) (hv : v.toNat < 128) :
    hdma5Write v s = .next { s with hdma := { s.hdma with hblank := false } } := by
  have bit : v.getLsbD 7 = false := (getLsbD_seven_eq_ge v).trans (decide_eq_false (by omega))
  rw [hdma5Write, if_pos ⟨hh, bit⟩]

/-- HDMA5 reads the blocks left minus 1, bit 7 set when no transfer is active (R161). -/
theorem hdma5Read_toNat (d : Hdma) (h1 : 0 < d.left) (h2 : d.left ≤ 128) :
    (hdma5Read d).toNat = if d.hblank then d.left - 1 else 128 + (d.left - 1) := by
  have low : ∀ k < 128, (BitVec.ofNat 8 k &&& 0x7F).toNat = k ∧
      (0x80 ||| (BitVec.ofNat 8 k &&& 0x7F)).toNat = 128 + k := by decide +kernel
  obtain ⟨active, idle⟩ := low (d.left - 1) (by omega)
  cases hh : d.hblank
  · rw [hdma5Read, if_neg (by simp [hh]), if_neg (by omega)]
    exact idle
  · rw [hdma5Read, if_pos hh]
    exact active

/-- The dot that ends mode 3 enters mode 0 (62_ppu.md R602, R603). -/
theorem ppuDot_hblank {s : State} (h1 : s.ppu.ly < 144) (h2 : s.ppu.lineDot = 251) : ppuDot s = hblankBlock { s with
    ppu := { s.ppu with lineDot := 252, mode := .hblank }
    irq := { s.irq with
      ifByte := if s.ppu.statEnable.getLsbD 0 then setBitOf s.irq.ifByte 1 else s.irq.ifByte } } := by
  unfold ppuDot
  dsimp only
  rw [h2, if_neg (by omega), if_pos ⟨h1, rfl⟩, enterHblank, statRequest]
  congr 1
  split <;> simp_all [State.setMode, State.request]

/-- Settles O44: a block is a fold of its byte copies, a general-purpose transfer iterates the block, and HDMA5 is
written and read by its cases. -/
theorem hdmaTransfers : Obligations.HdmaTransfers := by
  have reg5 : HoldsReg 0xFF55 .hdma5 := by decide
  have write {s : State} {a : Word} {r : IoReg} (v : Byte) (hc : s.model = .cgb) (ha : HoldsReg a r) :
      memWrite s a v = ioRegWrite r v s := memWrite_register v ha (.inl (cgb_eq_true hc))
  have read {s : State} (hc : s.model = .cgb) : readByte s 0xFF55 = hdma5Read s.hdma :=
    readByte_register reg5 (.inl (cgb_eq_true hc))
  refine ⟨fun s hm => hdmaBlock_eq_foldl hm, fun s hm hsrc => ?_, fun s v hc => ?_, fun s v hm hc hh hv => ?_,
    fun s v hc hv => (write v hc reg5).trans (hdma5Write_arm hv),
    fun s v hc hh hv => (write v hc reg5).trans (hdma5Write_cancel hh hv), fun s => ppuDot_hblank,
    fun s hm hh hl => ?_, fun s hh => ?_, fun s hc => ?_⟩
  · obtain ⟨m, hu, copied, kept⟩ := copyBlock_reads (le_refl 16) (fun j k => hsrc j k)
    exact ⟨_, m, hdmaBlock_eq_foldl hm, by rw [hu], copied, kept⟩
  · refine ⟨(write v hc (r := .hdma1) (by decide)).trans ?_, (write v hc (r := .hdma2) (by decide)).trans ?_,
      (write v hc (r := .hdma3) (by decide)).trans ?_, (write v hc (r := .hdma4) (by decide)).trans ?_⟩ <;>
      rw [ioRegWrite, hdmaRegWrite, if_pos (cgb_eq_true hc), hdmaLatch]
  · obtain ⟨m, d, hk⟩ := afterBlocks_eq hm (v.toNat + 1)
    refine ⟨fun k => afterBlock^[k] s, _, rfl, fun k _ => ?_, (write v hc reg5).trans (hdma5Write_general hm hh hv),
      rfl, ?_, dst_afterBlocks hm v.toNat, ?_⟩
    · exact (hdmaBlock_eq_afterBlock (mapped_afterBlocks hm k)).trans
        (congrArg Host.Outcome.next (Function.iterate_succ_apply' afterBlock k s).symm)
    · show (afterBlock^[v.toNat + 1] s).hdma.src = _
      rw [hk]
    · refine (read ?_).trans ?_
      · show (afterBlock^[v.toNat + 1] s).model = _
        rw [hk, hc]
      · show hdma5Read { (afterBlock^[v.toNat + 1] s).hdma with left := 0 } = 0xFF
        rw [hk]
        simp [hdma5Read, hh]
  · refine ⟨_, hdmaBlock_eq_afterBlock hm, ?_⟩
    obtain ⟨m, hb⟩ := afterBlock_eq hm
    have last : decide (s.hdma.left - 1 ≠ 0) = decide (s.hdma.left ≠ 1) := by
      congr 1
      simp
      omega
    rw [hblankBlock, if_pos hh, hdmaBlock_eq_afterBlock hm, andThen_next, hb, ← last]
    rfl
  · rw [hblankBlock, if_neg (by simp [hh])]
  · rw [read hc]
    refine ⟨fun hh h1 h2 => ?_, fun hh hl => ?_, fun hh h1 h2 => ?_⟩
    · rw [hdma5Read_toNat _ h1 h2, if_pos hh]
    · simp [hdma5Read, hh, hl]
    · rw [hdma5Read_toNat _ h1 h2, if_neg (by simp [hh])]

/-! ### What instructions write of the CPU -/

/-- Parts of the CPU that an operation may write; `control` is IME, `halted` and the deferred queue. -/
structure CpuParts where
  regs : List Reg
  flags : FlagSet
  sp : Bool
  pc : Bool
  control : Bool
  speed : Bool

/-- The parts that the rule of a form names. -/
def partsWritten (f : Form) : CpuParts :=
  { regs := regsWritten f, flags := flagsWritten f, sp := writesSp f, pc := transfers f, control := writesControl f
    speed := match f with
      | .stop _ => true
      | _ => false }

/-- Nothing changes but the given parts of the CPU and the cost. -/
structure CpuStep (w : CpuParts) (s t : State) : Prop where
  outside : SameOutside s t
  regs : SameRegsBut w.regs s t
  flags : SameFlagsBut w.flags s t
  sp : w.sp = false → t.cpu.sp = s.cpu.sp
  pc : w.pc = false → t.cpu.pc = s.cpu.pc
  control : w.control = false → t.cpu.ime = s.cpu.ime ∧ t.cpu.halted = s.cpu.halted ∧ t.cpu.pending = s.cpu.pending
  speed : w.speed = false → t.cpu.doubleSpeed = s.cpu.doubleSpeed ∧ t.cpu.key1Armed = s.cpu.key1Armed

theorem SameOutside.trans {s t u : State} (h : SameOutside s t) (k : SameOutside t u) : SameOutside s u :=
  ⟨k.model.trans h.model, k.cart.trans h.cart, k.irq.trans h.irq, k.mem.trans h.mem, k.mbc.trans h.mbc,
    k.hdma.trans h.hdma, k.timer.trans h.timer, k.ppu.trans h.ppu, k.sound.trans h.sound, k.keypad.trans h.keypad,
    k.serial.trans h.serial, k.host.trans h.host, k.extra.trans h.extra, k.fault.trans h.fault⟩

/-- Replacing the CPU and the cost. -/
theorem sameOutside_cpu (s : State) (c : Cpu) (n : Nat) : SameOutside s { s with cpu := c, cost := n } :=
  ⟨rfl, rfl, rfl, rfl, rfl, rfl, rfl, rfl, rfl, rfl, rfl, rfl, rfl, rfl⟩

theorem SameFlagsBut.of_f {w : FlagSet} {s t : State} (h : t.cpu.f = s.cpu.f) : SameFlagsBut w s t :=
  ⟨fun _ => by rw [State.zf, h, State.zf], fun _ => by rw [State.nf, h, State.nf],
    fun _ => by rw [State.hf, h, State.hf], fun _ => by rw [State.cf, h, State.cf]⟩

theorem SameFlagsBut.trans {w : FlagSet} {s t u : State} (h : SameFlagsBut w s t) (k : SameFlagsBut w t u) :
    SameFlagsBut w s u :=
  ⟨fun hw => (k.z hw).trans (h.z hw), fun hw => (k.n hw).trans (h.n hw), fun hw => (k.h hw).trans (h.h hw),
    fun hw => (k.c hw).trans (h.c hw)⟩

namespace CpuStep

variable {w : CpuParts} {s t : State}

theorem refl (w : CpuParts) (s : State) : CpuStep w s s :=
  ⟨sameOutside_cpu s s.cpu s.cost, fun _ _ => rfl, .of_f rfl, fun _ => rfl, fun _ => rfl, fun _ => ⟨rfl, rfl, rfl⟩,
    fun _ => ⟨rfl, rfl⟩⟩

theorem trans {u : State} (h : CpuStep w s t) (k : CpuStep w t u) : CpuStep w s u where
  outside := h.outside.trans k.outside
  regs := fun r hr => (k.regs r hr).trans (h.regs r hr)
  flags := h.flags.trans k.flags
  sp := fun hw => (k.sp hw).trans (h.sp hw)
  pc := fun hw => (k.pc hw).trans (h.pc hw)
  control := fun hw =>
    have ⟨h1, h2, h3⟩ := h.control hw
    have ⟨k1, k2, k3⟩ := k.control hw
    ⟨k1.trans h1, k2.trans h2, k3.trans h3⟩
  speed := fun hw =>
    have ⟨h1, h2⟩ := h.speed hw
    have ⟨k1, k2⟩ := k.speed hw
    ⟨k1.trans h1, k2.trans h2⟩

theorem setCost (h : CpuStep w s t) (n : Nat) : CpuStep w s (t.setCost n) :=
  h.trans ⟨sameOutside_cpu t t.cpu n, fun r _ => by cases r <;> rfl, .of_f rfl, fun _ => rfl, fun _ => rfl,
    fun _ => ⟨rfl, rfl, rfl⟩, fun _ => ⟨rfl, rfl⟩⟩

theorem setReg (h : CpuStep w s t) {p : Reg} (hp : p ∈ w.regs) (v : Byte) : CpuStep w s (t.setReg p v) :=
  h.trans ⟨sameOutside_cpu t _ t.cost,
    fun r hr => by rw [reg_setReg, if_neg (fun e : r = p => hr (e ▸ hp))], .of_f (by simp), fun _ => by simp,
    fun _ => by simp, fun _ => by simp, fun _ => by simp⟩

theorem setR16 (h : CpuStep w s t) {r : R16} (hr : pairRegs r ⊆ w.regs) (hsp : r = .sp → w.sp = true) (v : Word) :
    CpuStep w s (t.setR16 r v) := by
  refine h.trans ⟨sameOutside_cpu t _ t.cost, fun p hp => ?_, .of_f ?_, fun hw => ?_, ?_, ?_, ?_⟩
  · have hp' : p ∉ pairRegs r := fun hm => hp (hr hm)
    cases r <;> cases p <;> first | rfl | simp [pairRegs] at hp'
  · cases r <;> rfl
  · cases r
    case sp => exact absurd (hsp rfl) (by simp [hw])
    all_goals rfl
  all_goals cases r <;> simp [State.setR16]

theorem setR16stk (h : CpuStep w s t) {r : R16Stk} (hr : popRegs r ⊆ w.regs)
    (hf : r = .af → w.flags = ⟨true, true, true, true⟩) (v : Word) : CpuStep w s (t.setR16stk r v) := by
  refine h.trans ⟨sameOutside_cpu t _ t.cost, fun p hp => ?_, ?_, ?_, ?_, ?_, ?_⟩
  · have hp' : p ∉ popRegs r := fun hm => hp (hr hm)
    cases r <;> cases p <;> first | rfl | simp [popRegs] at hp'
  · cases r
    case af => rw [hf rfl]; exact ⟨nofun, nofun, nofun, nofun⟩
    all_goals exact .of_f rfl
  all_goals cases r <;> simp [State.setR16stk]

theorem indAfter (h : CpuStep w s t) {m : R16Mem} (hr : indRegs m ⊆ w.regs) : CpuStep w s (indAfter m t) := by
  cases m
  case bc => exact h
  case de => exact h
  all_goals exact h.setR16 (r := .hl) hr nofun _

/-- The flags written are free, the others are given the values they had at the start. -/
theorem putFlags (h : CpuStep w s t) {x : FlagSet} (hz : w.flags.z = false → x.z = s.zf)
    (hn : w.flags.n = false → x.n = s.nf) (hh : w.flags.h = false → x.h = s.hf) (hc : w.flags.c = false → x.c = s.cf) :
    CpuStep w s (t.putFlags x) where
  outside := h.outside.trans (sameOutside_cpu t _ t.cost)
  regs := fun r hr => Eq.trans (by cases r <;> rfl) (h.regs r hr)
  flags := ⟨fun hw => (zf_setFlags ..).trans (hz hw), fun hw => (nf_setFlags ..).trans (hn hw),
    fun hw => (hf_setFlags ..).trans (hh hw), fun hw => (cf_setFlags ..).trans (hc hw)⟩
  sp := h.sp
  pc := h.pc
  control := h.control
  speed := h.speed

theorem setFlags (h : CpuStep w s t) {a b c d : Bool} (hz : w.flags.z = false → a = s.zf)
    (hn : w.flags.n = false → b = s.nf) (hh : w.flags.h = false → c = s.hf) (hc : w.flags.c = false → d = s.cf) :
    CpuStep w s (t.setFlags a b c d) := h.putFlags (x := ⟨a, b, c, d⟩) hz hn hh hc

theorem setSp (h : CpuStep w s t) (hw : w.sp = true) (v : Word) : CpuStep w s (t.setSp v) :=
  { h with outside := h.outside.trans (sameOutside_cpu t _ t.cost)
           regs := fun r hr => Eq.trans (by cases r <;> rfl) (h.regs r hr)
           flags := h.flags.trans (.of_f rfl)
           sp := fun hf => absurd hw (by simp [hf]) }

theorem setPc (h : CpuStep w s t) (hw : w.pc = true) (v : Word) : CpuStep w s (t.setPc v) :=
  { h with outside := h.outside.trans (sameOutside_cpu t _ t.cost)
           regs := fun r hr => Eq.trans (by cases r <;> rfl) (h.regs r hr)
           flags := h.flags.trans (.of_f rfl)
           pc := fun hf => absurd hw (by simp [hf]) }

/-- Any new control state. -/
theorem setControl (h : CpuStep w s t) (hw : w.control = true) (ime halted : Bool) (q : List Deferred) :
    CpuStep w s { t with cpu := { t.cpu with ime := ime, halted := halted, pending := q } } :=
  { h with outside := h.outside.trans (sameOutside_cpu t _ t.cost)
           regs := fun r hr => Eq.trans (by cases r <;> rfl) (h.regs r hr)
           flags := h.flags.trans (.of_f rfl)
           control := fun hf => absurd hw (by simp [hf]) }

end CpuStep

/-! ### Reads after such a step -/

theorem ioSlot_key1 : ∀ x : Byte, ioSlot x = .reg .key1 → x = 0x4D := by decide +kernel

/-- No register but KEY1 reads the CPU. -/
theorem ioRegRead_cpu_of_ne_key1 (s : State) (c : Cpu) (n : Nat) {r : IoReg} (hr : r ≠ .key1) :
    ioRegRead { s with cpu := c, cost := n } r = ioRegRead s r := by
  cases r
  case key1 => exact absurd rfl hr
  all_goals rfl

/-- Whatever the CPU does by itself, no address but KEY1's reads otherwise. -/
theorem readByte_of_ne_key1 {s t : State} (h : SameOutside s t) {a : Word} (ha : locOf s a ≠ .io 0x4D) :
    readByte t a = readByte s a := by
  rw [h.eq]
  generalize t.cpu = c, t.cost = n
  rw [readByte, readByte]
  show locRead _ (locOf s a) = _
  cases hl : locOf s a
  case io x =>
    simp only [locRead, ioRead]
    cases hs : ioSlot x
    case reg r =>
      have hr : r ≠ .key1 := by
        rintro rfl
        exact ha (hl.trans (congrArg Loc.io (ioSlot_key1 x hs)))
      dsimp only
      rw [ioRegRead_cpu_of_ne_key1 s c n hr]
      rfl
    all_goals rfl
  all_goals rfl

/-! ### Forms that store nothing -/

/-- An outcome, and then a state made of it. -/
theorem andThen_pure_eq_next {α : Type} {o : Out α} {k : α → State} {t : State}
    (h : (andThen o fun a => .next (k a)) = .next t) : ∃ a, o = .next a ∧ t = k a := by
  obtain ⟨a, ha, ht⟩ := andThen_eq_next.1 h
  exact ⟨a, ha, (Host.Outcome.next.inj ht).symm⟩

/-- A read-modify-write of a register is a step of the CPU if what follows the write is. -/
theorem cpuStep_readModifyWrite {w : CpuParts} {r : R8} {g : Byte → Byte} {k : Byte → State → State} {s t : State}
    (hr : r.reg.isSome = true) (hw : w.regs = r.reg.toList)
    (h : (andThen (readR8 r s) fun v => andThen (writeR8 r (g v) s) fun u => .next (k v u)) = .next t)
    (hk : ∀ v u, CpuStep w s u → CpuStep w s (k v u)) : CpuStep w s t := by
  obtain ⟨p, hp⟩ := Option.isSome_iff_exists.1 hr
  rw [readR8_reg hp, andThen_next, writeR8_reg hp, andThen_next] at h
  cases h
  exact hk _ _ ((CpuStep.refl w s).setReg (hw ▸ Option.mem_toList.2 hp) _)

theorem setReg_self (s : State) (p : Reg) : s.setReg p (s.reg p) = s := by cases p <;> rfl

theorem mem_aluRegs {op : AluOp} {src : R8} (h : op ≠ .cp) : Reg.a ∈ (partsWritten (.alu op src)).regs := by
  show _ ∈ if op = .cp then [] else [Reg.a]
  rw [if_neg h]
  exact List.mem_cons_self ..

theorem cpuStep_aluOn {w : CpuParts} (op : AluOp) (v : Byte) (n : Nat) (s : State)
    (hr : op ≠ .cp → .a ∈ w.regs) (hf : w.flags = ⟨true, true, true, true⟩) : CpuStep w s (aluOn op v n s) := by
  have acc : CpuStep w s (s.setReg .a (aluAccumulator op s.cpu.a v s.cf)) := by
    by_cases hop : op = .cp
    · subst hop
      exact (setReg_self s .a).symm ▸ .refl w s
    · exact (CpuStep.refl w s).setReg (hr hop) _
  rw [aluOn]
  refine (acc.putFlags ?_ ?_ ?_ ?_).setCost n <;> rw [hf] <;> exact nofun

theorem cpuStep_returnTo {w : CpuParts} {n : Nat} {s t : State} (hsp : w.sp = true) (hpc : w.pc = true)
    (h : returnTo n s = .next t) : CpuStep w s t := by
  obtain ⟨x, hx, rfl⟩ := andThen_pure_eq_next h
  obtain rfl := pop16_eq_next hx
  exact (((CpuStep.refl w s).setSp hsp _).setPc hpc _).setCost n

/-- A form that stores nothing only takes a step of the CPU. -/
theorem form_cpuStep {f : Form} {s t : State} (hn : storesNothing f = true) (ht : formMeaning f s = .next t) :
    CpuStep (partsWritten f) s t := by
  have start : CpuStep (partsWritten f) s s := .refl _ s
  cases f
  case ldR8 dst r =>
    obtain ⟨p, hp⟩ := Option.isSome_iff_exists.1 hn
    obtain ⟨v, -, h2⟩ := andThen_eq_next.1 ht
    rw [writeR8_reg hp] at h2
    cases h2
    exact (start.setReg (Option.mem_toList.2 hp) v).setCost _
  case ldR8Imm dst n =>
    obtain ⟨p, hp⟩ := Option.isSome_iff_exists.1 hn
    rw [formMeaning, loadR8Imm, writeR8_reg hp] at ht
    cases ht
    exact (start.setReg (Option.mem_toList.2 hp) n).setCost _
  case ldAInd m =>
    obtain ⟨v, -, rfl⟩ := andThen_pure_eq_next ht
    exact ((start.setReg (List.mem_cons_self ..) v).indAfter (List.subset_cons_self ..)).setCost 8
  case ldAMem a =>
    obtain ⟨v, -, rfl⟩ := andThen_pure_eq_next ht
    exact (start.setReg (List.mem_cons_self ..) v).setCost 16
  case ldhLoad a =>
    obtain ⟨v, -, rfl⟩ := andThen_pure_eq_next ht
    exact (start.setReg (List.mem_cons_self ..) v).setCost 12
  case ldAHighC =>
    obtain ⟨v, -, rfl⟩ := andThen_pure_eq_next ht
    exact (start.setReg (List.mem_cons_self ..) v).setCost 8
  case ldR16 r d =>
    cases ht
    exact (start.setR16 (List.Subset.refl _) (fun e => by rw [e]; rfl) d).setCost 12
  case incR16 r =>
    cases ht
    exact (start.setR16 (List.Subset.refl _) (fun e => by rw [e]; rfl) _).setCost 8
  case decR16 r =>
    cases ht
    exact (start.setR16 (List.Subset.refl _) (fun e => by rw [e]; rfl) _).setCost 8
  case ldSpHl =>
    cases ht
    exact (start.setSp rfl _).setCost 8
  case ldHlSp e =>
    cases ht
    exact ((start.setR16 (r := .hl) (List.Subset.refl _) nofun _).putFlags nofun nofun nofun nofun).setCost 12
  case addHl r =>
    cases ht
    exact ((start.setR16 (r := .hl) (List.Subset.refl _) nofun _).putFlags (fun _ => rfl) nofun nofun nofun).setCost 8
  case addSp e =>
    cases ht
    exact ((start.setSp rfl _).putFlags nofun nofun nofun nofun).setCost 16
  case pop r =>
    obtain ⟨x, hx, rfl⟩ := andThen_pure_eq_next ht
    obtain rfl := pop16_eq_next hx
    exact ((start.setSp rfl _).setR16stk (List.Subset.refl _) (fun e => by rw [e]; rfl) _).setCost 12
  case alu op r =>
    obtain ⟨v, -, rfl⟩ := andThen_pure_eq_next ht
    exact cpuStep_aluOn op v _ s (fun h => mem_aluRegs h) rfl
  case aluImm op d =>
    cases ht
    exact cpuStep_aluOn op d _ s (fun _ => List.mem_cons_self ..) rfl
  case incR8 r =>
    exact cpuStep_readModifyWrite hn rfl ht
      (fun _ _ hu => (hu.putFlags nofun nofun nofun (fun _ => rfl)).setCost _)
  case decR8 r =>
    exact cpuStep_readModifyWrite hn rfl ht
      (fun _ _ hu => (hu.putFlags nofun nofun nofun (fun _ => rfl)).setCost _)
  case shift op r =>
    exact cpuStep_readModifyWrite hn rfl ht (fun _ _ hu => (hu.putFlags nofun nofun nofun nofun).setCost _)
  case res n r => exact cpuStep_readModifyWrite hn rfl ht (fun _ _ hu => hu.setCost _)
  case set n r => exact cpuStep_readModifyWrite hn rfl ht (fun _ _ hu => hu.setCost _)
  case bit n r =>
    obtain ⟨v, -, rfl⟩ := andThen_pure_eq_next ht
    exact (start.putFlags nofun nofun nofun (fun _ => rfl)).setCost _
  case cpl =>
    cases ht
    exact ((start.setReg (List.mem_cons_self ..) _).setFlags (fun _ => rfl) nofun nofun (fun _ => rfl)).setCost 4
  case daa =>
    cases ht
    exact ((start.setReg (List.mem_cons_self ..) _).setFlags nofun (fun _ => rfl) nofun nofun).setCost 4
  case rotA op =>
    cases ht
    exact ((start.setReg (List.mem_cons_self ..) _).putFlags nofun nofun nofun nofun).setCost 4
  case scf =>
    cases ht
    exact (start.setFlags (fun _ => rfl) nofun nofun nofun).setCost 4
  case ccf =>
    cases ht
    exact (start.setFlags (fun _ => rfl) nofun nofun nofun).setCost 4
  case jp a =>
    cases ht
    exact (start.setPc rfl a).setCost 16
  case jpHl =>
    cases ht
    exact (start.setPc rfl _).setCost 4
  case jr e =>
    cases ht
    exact (start.setPc rfl _).setCost 12
  case jpCc cc a =>
    rw [formMeaning, jumpIf] at ht
    split at ht <;> cases ht
    · exact (start.setPc rfl a).setCost 16
    · exact start.setCost 12
  case jrCc cc e =>
    rw [formMeaning, jumpRelIf] at ht
    split at ht <;> cases ht
    · exact (start.setPc rfl _).setCost 12
    · exact start.setCost 8
  case ret => exact cpuStep_returnTo rfl rfl ht
  case retCc cc =>
    rw [formMeaning, returnIf] at ht
    split at ht
    · exact cpuStep_returnTo rfl rfl ht
    · cases ht
      exact start.setCost 8
  case reti =>
    obtain ⟨u, hu, rfl⟩ := andThen_pure_eq_next ht
    obtain ⟨x, hx, rfl⟩ := andThen_pure_eq_next hu
    obtain rfl := pop16_eq_next hx
    exact (((start.setSp rfl _).setPc rfl _).setControl rfl true _ _).setCost 16
  case halt =>
    cases ht
    exact (start.setControl rfl _ true _).setCost 4
  case ei =>
    cases ht
    exact (start.setControl rfl _ _ _).setCost 4
  case di =>
    cases ht
    exact (start.setControl rfl _ _ _).setCost 4
  case nop =>
    cases ht
    exact start.setCost 4
  case stop b =>
    rw [formMeaning, speedSwitch] at ht
    split_ifs at ht
    · simp at ht
    · cases ht
      exact ⟨sameOutside_cpu s _ _, fun r _ => by cases r <;> rfl, .of_f rfl, fun _ => rfl, fun _ => rfl, nofun, nofun⟩
    · simp at ht
  case illegal op => simp [formMeaning, illegalOpcode] at ht
  all_goals cases hn

/-- Settles O33: the form takes a step of the CPU, and only KEY1 reads the CPU. -/
theorem frameOfFormsWithoutStore : Obligations.FrameOfFormsWithoutStore := by
  intro i s t hn ht
  obtain ⟨outside, regs, flags, sp, pc, control, speed⟩ := form_cpuStep hn (exec_eq_formMeaning i s ▸ ht)
  have notStop (h : ∀ b, i.form ≠ .stop b) : (partsWritten i.form).speed = false := by
    unfold partsWritten
    dsimp only
    split
    · exact absurd ‹_› (h _)
    · rfl
  refine ⟨outside, fun a => readByte_of_ne_key1 outside, fun h => ?_, regs, flags, sp, pc, fun hw => ?_⟩
  · obtain ⟨hd, hk⟩ := speed (notStop h)
    exact readByte_same outside hd hk
  · obtain ⟨hi, hh, hq⟩ := control hw
    obtain ⟨hd, hk⟩ := speed (notStop fun b e => by simp [e, writesControl] at hw)
    exact ⟨hi, hh, hq, hd, hk⟩

/-! ### Forms that store one byte -/

theorem WriteFrame.f {s t : State} (h : WriteFrame s t) : t.cpu.f = s.cpu.f := by rw [h.cpu]

theorem WriteFrame.cf {s t : State} (h : WriteFrame s t) : t.cf = s.cf := by rw [State.cf, h.f, State.cf]

/-- A store and then a step of the CPU. -/
theorem cpuStep_afterStore {w : CpuParts} {s t : State} {a : Word} {v : Byte} {k : State → State}
    (h : (andThen (memWrite s a v) fun u => .next (k u)) = .next t) (hk : ∀ u, CpuStep w u (k u)) :
    ∃ u, memWrite s a v = .next u ∧ CpuStep w u t := by
  obtain ⟨u, hu, rfl⟩ := andThen_pure_eq_next h
  exact ⟨u, hu, hk u⟩

/-- A read-modify-write of the byte at HL: its one write, and what follows it. -/
theorem readModifyWrite_mem {g : Byte → Byte} {k : Byte → State → State} {s t : State}
    (h : (andThen (readR8 .hlMem s) fun v => andThen (writeR8 .hlMem (g v) s) fun u => .next (k v u)) = .next t) :
    ∃ u, memWrite s s.hl (g (readByte s s.hl)) = .next u ∧ t = k (readByte s s.hl) u := by
  obtain ⟨v, hv, h2⟩ := andThen_eq_next.1 h
  obtain rfl := memRead_eq_next hv
  exact andThen_pure_eq_next h2

/-- A form that stores one byte is its write, then a step of the CPU. -/
theorem byteStore_cpuStep {f : Form} {s t : State} {a : Word} {v : Byte} (hb : byteStore f s = some (a, v))
    (ht : formMeaning f s = .next t) : ∃ u, memWrite s a v = .next u ∧ CpuStep (partsWritten f) u t := by
  have start (u : State) : CpuStep (partsWritten f) u u := .refl _ u
  cases f
  case ldR8 dst r =>
    cases dst
    case hlMem =>
      obtain ⟨p, hp, e⟩ := Option.map_eq_some_iff.1 hb
      cases e
      rw [formMeaning, loadR8, readR8_reg hp, andThen_next] at ht
      exact cpuStep_afterStore ht (fun u => (start u).setCost _)
    all_goals cases hb
  case ldR8Imm dst n =>
    cases dst
    case hlMem =>
      cases hb
      exact cpuStep_afterStore ht (fun u => (start u).setCost _)
    all_goals cases hb
  case ldIndA m =>
    cases hb
    exact cpuStep_afterStore ht (fun u => ((start u).indAfter (List.Subset.refl _)).setCost 8)
  case ldMemA n =>
    cases hb
    exact cpuStep_afterStore ht (fun u => (start u).setCost 16)
  case ldhStore n =>
    cases hb
    exact cpuStep_afterStore ht (fun u => (start u).setCost 12)
  case ldHighCA =>
    cases hb
    exact cpuStep_afterStore ht (fun u => (start u).setCost 8)
  case incR8 r =>
    cases r
    case hlMem =>
      cases hb
      obtain ⟨u, hu, rfl⟩ := readModifyWrite_mem ht
      exact ⟨u, hu, ((start u).putFlags nofun nofun nofun (fun _ => (memWrite_frame hu).cf.symm)).setCost _⟩
    all_goals cases hb
  case decR8 r =>
    cases r
    case hlMem =>
      cases hb
      obtain ⟨u, hu, rfl⟩ := readModifyWrite_mem ht
      exact ⟨u, hu, ((start u).putFlags nofun nofun nofun (fun _ => (memWrite_frame hu).cf.symm)).setCost _⟩
    all_goals cases hb
  case shift op r =>
    cases r
    case hlMem =>
      cases hb
      obtain ⟨u, hu, rfl⟩ := readModifyWrite_mem ht
      exact ⟨u, hu, ((start u).putFlags nofun nofun nofun nofun).setCost _⟩
    all_goals cases hb
  case res n r =>
    cases r
    case hlMem =>
      cases hb
      obtain ⟨u, hu, rfl⟩ := readModifyWrite_mem ht
      exact ⟨u, hu, (start u).setCost _⟩
    all_goals cases hb
  case set n r =>
    cases r
    case hlMem =>
      cases hb
      obtain ⟨u, hu, rfl⟩ := readModifyWrite_mem ht
      exact ⟨u, hu, (start u).setCost _⟩
    all_goals cases hb
  all_goals cases hb

/-- No form that stores one byte moves SP, transfers control or writes the control state. -/
theorem byteStore_parts {f : Form} {s : State} {x : Word × Byte} (hb : byteStore f s = some x) :
    (partsWritten f).sp = false ∧ (partsWritten f).pc = false ∧ (partsWritten f).control = false ∧
      (partsWritten f).speed = false := by
  cases f <;> first | exact ⟨rfl, rfl, rfl, rfl⟩ | cases hb

/-- Settles O34: the write's frame, then the step of the CPU; at plain memory the write is `memWrite_plain_spec`. -/
theorem frameOfByteStores : Obligations.FrameOfByteStores := by
  intro i s t a v hb ht
  obtain ⟨u, hu, outside, regs, flags, sp, pc, control, speed⟩ :=
    byteStore_cpuStep hb (exec_eq_formMeaning i s ▸ ht)
  obtain ⟨hsp, hpc, hctl, hspeed⟩ := byteStore_parts hb
  obtain ⟨ime, halted, pending⟩ := control hctl
  obtain ⟨fast, armed⟩ := speed hspeed
  have hf := memWrite_frame hu
  refine ⟨fun r hr => (regs r hr).trans (hf.reg r), (SameFlagsBut.of_f hf.f).trans flags, (sp hsp).trans ?_,
    (pc hpc).trans ?_, ime.trans ?_, halted.trans ?_, pending.trans ?_, fast.trans ?_, fun hp => ?_⟩
  iterate 6 · rw [hf.cpu]
  · obtain ⟨u', hu', read, others, dev, cpu, -, -⟩ := memWrite_plain_spec v hp
    obtain rfl : u' = u := Host.Outcome.next.inj (hu'.symm.trans hu)
    have same (b : Word) : readByte t b = readByte u' b := readByte_same outside fast armed b
    refine ⟨(same a).trans read, fun b hb => (same b).trans (others b hb), ?_, armed.trans (by rw [cpu])⟩
    exact ⟨outside.model.trans dev.model, outside.cart.trans dev.cart, by rw [outside.irq, dev.requests],
      outside.mbc.trans dev.mbc, outside.hdma.trans dev.hdma, outside.timer.trans dev.timer,
      outside.ppu.trans dev.ppu, outside.sound.trans dev.sound, outside.keypad.trans dev.keypad,
      outside.serial.trans dev.serial, outside.host.trans dev.host, outside.extra.trans dev.extra,
      outside.fault.trans dev.fault⟩

end Sys2Proof.Machine

/-! PROOFS of the statements about the encoding (spec/30_encoding.md): the decoder and the encoder, the fields of the
opcodes, the opcodes that stop the machine, and the step that runs what was decoded. -/

namespace Sys2Proof.Machine

/-! ### What the decoder does -/

theorem decode_cb (c : Byte) (rest : List Byte) : decode (0xCB :: c :: rest) = .ok (cbInstr c, rest) := rfl

theorem decode_stop_zero (rest : List Byte) : decode (0x10 :: 0 :: rest) = .ok (.STOP 0, rest) := rfl

theorem decode_stop_error {b : Byte} (hb : b ≠ 0) (rest : List Byte) :
    decode (0x10 :: b :: rest) = .error (.stopSecondByte b) := by
  rw [decode, if_neg (by decide), if_pos rfl]
  exact if_neg hb

/-- An opcode of one byte is an instruction, whatever follows. -/
theorem decode_one {op : Byte} (hl : opcodeLength op = 1) (rest : List Byte) :
    decode (op :: rest) = .ok (primaryInstr op 0 0, rest) := by
  have hcb : op ≠ 0xCB := by
    rintro rfl
    exact absurd hl (by decide)
  have hstop : op ≠ 0x10 := by
    rintro rfl
    exact absurd hl (by decide)
  simp only [decode, if_neg hcb, if_neg hstop, hl]

/-- What the decoder accepts: a CB row, STOP with a zero byte, or a primary row with as many bytes as its opcode
asks for. -/
theorem decode_eq_ok {bytes rest : List Byte} {i : Instr} (h : decode bytes = .ok (i, rest)) :
    (∃ c, bytes = 0xCB :: c :: rest ∧ i = cbInstr c) ∨
    (bytes = 0x10 :: 0 :: rest ∧ i = .STOP 0) ∨
    ∃ op n1 n2, op ≠ 0xCB ∧ op ≠ 0x10 ∧ i = primaryInstr op n1 n2 ∧
      (opcodeLength op = 1 ∧ bytes = op :: rest ∨ opcodeLength op = 2 ∧ bytes = op :: n1 :: rest ∨
        opcodeLength op = 3 ∧ bytes = op :: n1 :: n2 :: rest) := by
  unfold decode at h
  split at h
  · cases h
  · rename_i op tail
    split at h
    · subst op
      split at h <;> cases h
      exact .inl ⟨_, rfl, rfl⟩
    · split at h
      · subst op
        split at h
        · cases h
        · split at h <;> cases h
          subst_vars
          exact .inr (.inl ⟨rfl, rfl⟩)
      · refine .inr (.inr ?_)
        split at h <;> cases h
        · exact ⟨op, 0, 0, ‹_›, ‹_›, rfl, .inl ⟨‹_›, rfl⟩⟩
        · exact ⟨op, _, 0, ‹_›, ‹_›, rfl, .inr (.inl ⟨‹_›, rfl⟩)⟩
        · exact ⟨op, _, _, ‹_›, ‹_›, rfl, .inr (.inr ⟨‹_›, rfl⟩)⟩

/-! ### Decoding an encoding -/

/-- Each row is where its encoding looks it up; a 16-bit immediate is put together from its two bytes (R211). -/
theorem decode_encode {i : Instr} (hw : i.wellFormed = true) (rest : List Byte) :
    decode (encode i ++ rest) = .ok (i, rest) := by
  cases i
  case PREFIX_CB c => exact absurd hw Bool.false_ne_true
  case STOP b =>
    obtain rfl : b = 0 := by simpa [Instr.wellFormed, stopByteOk, notBarePrefix] using hw
    exact decode_stop_zero rest
  case LD_BC_d16 d | LD_DE_d16 d | LD_HL_d16 d | LD_SP_d16 d | LD__a16__SP d | LD__a16__A d | LD_A__a16 d |
      JP_a16 d | JP_NZ_a16 d | JP_Z_a16 d | JP_NC_a16 d | JP_C_a16 d |
      CALL_a16 d | CALL_NZ_a16 d | CALL_Z_a16 d | CALL_NC_a16 d | CALL_C_a16 d =>
    conv_rhs => rw [← pairOf_hiByte_loByte d]
    rfl
  all_goals rfl

/-- Settles O1: `decode_encode`, row by row. -/
theorem decodeOfEncode : Obligations.DecodeOfEncode :=
  fun _ rest hw => decode_encode hw rest

/-! ### Encoding what was decoded -/

theorem length_of_form {i : Instr} {f : Form} (h : i.form = f) : i.length = f.length := by
  rw [Instr.length, h]

/-- The first byte of an instruction's encoding. -/
def opcodeOf (i : Instr) : Byte := (encode i).headD 0

/-- The bytes after the opcode of an instruction of `n` bytes, out of the two bytes that the map's cells take. -/
def operandBytes (n : Nat) (n1 n2 : Byte) : List Byte :=
  match n with
  | 1 => []
  | 2 => [n1]
  | _ => [loByte (pairOf n2 n1), hiByte (pairOf n2 n1)]

/-- The first byte alone tells the length (R200). -/
theorem opcodeLength_opcodeOf (i : Instr) : opcodeLength (opcodeOf i) = i.length := by
  cases i <;> rfl

/-- The family `Laws.EncodeLength` as one statement. -/
theorem length_encode (i : Instr) : (encode i).length = i.length := by
  cases i <;> rfl

theorem encode_eq_cons (i : Instr) : encode i = opcodeOf i :: (encode i).tail := by
  cases i <;> rfl

/-- The cell at a row's opcode encodes as that opcode and the bytes the cell takes. -/
theorem encode_cell_of_row (i : Instr) (n1 n2 : Byte) :
    encode (primaryInstr (opcodeOf i) n1 n2) = opcodeOf i :: operandBytes i.length n1 n2 := by
  cases i <;> rfl

/-- Every cell of the primary map stands at the opcode of its own row. -/
theorem opcodeOf_primaryInstr (op : Byte) : opcodeOf (primaryInstr op 0 0) = op := by
  revert op
  decide +kernel

theorem encode_primaryInstr (op n1 n2 : Byte) :
    encode (primaryInstr op n1 n2) = op :: operandBytes (opcodeLength op) n1 n2 := by
  have h := encode_cell_of_row (primaryInstr op 0 0) n1 n2
  rwa [opcodeOf_primaryInstr] at h

theorem encode_cbInstr (c : Byte) : encode (cbInstr c) = [0xCB, c] := by
  revert c
  decide +kernel

theorem cbInstr_wellFormed (c : Byte) : (cbInstr c).wellFormed = true := by
  revert c
  decide +kernel

/-- Only STOP and PREFIX_CB can be ill-formed. -/
theorem wellFormed_or (i : Instr) : i.wellFormed = true ∨ (∃ b, i = .STOP b) ∨ ∃ c, i = .PREFIX_CB c := by
  unfold Instr.wellFormed stopByteOk notBarePrefix
  split <;> split <;> simp

theorem primaryInstr_wellFormed {op : Byte} (hcb : op ≠ 0xCB) (hstop : op ≠ 0x10) (n1 n2 : Byte) :
    (primaryInstr op n1 n2).wellFormed = true := by
  have he := encode_primaryInstr op n1 n2
  rcases wellFormed_or (primaryInstr op n1 n2) with hw | ⟨b, hb⟩ | ⟨c, hc⟩
  · exact hw
  · rw [hb] at he
    exact absurd (List.head_eq_of_cons_eq he).symm hstop
  · rw [hc] at he
    exact absurd (List.head_eq_of_cons_eq he).symm hcb

/-- Settles O2, by what the decoder accepts and how the maps' rows are encoded. -/
theorem encodeOfDecode : Obligations.EncodeOfDecode := by
  intro bytes i rest h
  rcases decode_eq_ok h with ⟨c, rfl, rfl⟩ | ⟨rfl, rfl⟩ | ⟨op, n1, n2, hcb, hstop, rfl, hbytes⟩
  · exact ⟨cbInstr_wellFormed c, by rw [encode_cbInstr]; rfl⟩
  · exact ⟨rfl, rfl⟩
  · refine ⟨primaryInstr_wellFormed hcb hstop n1 n2, ?_⟩
    rw [encode_primaryInstr]
    rcases hbytes with ⟨hl, rfl⟩ | ⟨hl, rfl⟩ | ⟨hl, rfl⟩ <;> simp [hl, operandBytes]

/-- Settles O3: each vector is read by running the decoder. -/
theorem specWordsDecode : Obligations.SpecWordsDecode := by
  unfold Obligations.SpecWordsDecode
  and_intros <;> rfl

/-! ### Fields -/

/-- The bytes that the fields of R201 give a form, for the forms whose opcode is made of fields. -/
def fieldEncoding : Form → Option (List Byte)
  | .ldR8 dst src => some [fieldByte 1 dst.code src.code]
  | .ldR8Imm dst n => some [fieldByte 0 dst.code 6, n]
  | .ldIndA m => some [fieldByte 0 (2 * m.code) 2]
  | .ldAInd m => some [fieldByte 0 (2 * m.code + 1) 2]
  | .ldR16 r v => some [fieldByte 0 (2 * r.code) 1, loByte v, hiByte v]
  | .push r => some [fieldByte 3 (2 * r.code) 5]
  | .pop r => some [fieldByte 3 (2 * r.code) 1]
  | .alu op r => some [fieldByte 2 op.code r.code]
  | .aluImm op n => some [fieldByte 3 op.code 6, n]
  | .incR8 r => some [fieldByte 0 r.code 4]
  | .decR8 r => some [fieldByte 0 r.code 5]
  | .incR16 r => some [fieldByte 0 (2 * r.code) 3]
  | .decR16 r => some [fieldByte 0 (2 * r.code + 1) 3]
  | .addHl r => some [fieldByte 0 (2 * r.code + 1) 1]
  | .rotA op => some [fieldByte 0 op.code 7]
  | .shift op r => some [0xCB, fieldByte 0 op.code r.code]
  | .bit n r => some [0xCB, fieldByte 1 (n.zeroExtend 8) r.code]
  | .res n r => some [0xCB, fieldByte 2 (n.zeroExtend 8) r.code]
  | .set n r => some [0xCB, fieldByte 3 (n.zeroExtend 8) r.code]
  | .jpCc cc a => some [fieldByte 3 cc.code 2, loByte a, hiByte a]
  | .jrCc cc e => some [fieldByte 0 (cc.code + 4) 0, e]
  | .callCc cc a => some [fieldByte 3 cc.code 4, loByte a, hiByte a]
  | .retCc cc => some [fieldByte 3 cc.code 0]
  | .rst n => some [fieldByte 3 (n.zeroExtend 8) 7]
  | _ => none

/-- The fields, where the form has them, give the encoding. -/
theorem fieldEncoding_getD_encode (i : Instr) : (fieldEncoding i.form).getD (encode i) = encode i := by
  cases i <;> rfl

theorem encode_of_fields {i : Instr} {f : Form} {bytes : List Byte} (hf : i.form = f)
    (hb : fieldEncoding f = some bytes) : encode i = bytes := by
  rw [← fieldEncoding_getD_encode, hf, hb, Option.getD_some]

/-- Settles O4: each class is a line of `fieldEncoding`. -/
theorem encodingByFields : Obligations.EncodingByFields := by
  intro i
  and_intros <;> intros <;> exact encode_of_fields ‹_› rfl

/-- The row at `c` of the CB map has the form of the fields of `c` (R208). -/
theorem form_cbInstr (c : Byte) : (cbInstr c).form = cbFields c := by
  revert c
  decide +kernel

/-- Settles O5: the decoder's CB branch, and the CB map by decision. -/
theorem cbMapByFields : Obligations.CbMapByFields :=
  fun c rest => ⟨decode_cb c rest, form_cbInstr c⟩

/-! ### Fetching an instruction -/

/-- Moving PC changes no byte. -/
theorem readByte_setPc (s : State) (v a : Word) : readByte (s.setPc v) a = readByte s a :=
  readByte_same ⟨rfl, rfl, rfl, rfl, rfl, rfl, rfl, rfl, rfl, rfl, rfl, rfl, rfl, rfl⟩ rfl rfl a

theorem readByte_setExtra (s : State) (n : Nat) (a : Word) : readByte { s with extra := n } a = readByte s a := rfl

/-- The bytes that `n` consecutive addresses read as. -/
def bytesAt (s : State) : Word → Nat → List Byte
  | _, 0 => []
  | a, n + 1 => readByte s a :: bytesAt s (a + 1) n

theorem bytesAt_congr {s t : State} (h : ∀ a, readByte t a = readByte s a) (a : Word) (n : Nat) :
    bytesAt t a n = bytesAt s a n := by
  induction n generalizing a with
  | zero => rfl
  | succ n ih => rw [bytesAt, bytesAt, h, ih]

theorem take_bytesAt (s : State) (a : Word) {n m : Nat} (h : n ≤ m) : (bytesAt s a m).take n = bytesAt s a n := by
  induction n generalizing a m with
  | zero => rfl
  | succ n ih =>
    obtain ⟨m, rfl⟩ := Nat.exists_eq_add_of_lt h
    rw [bytesAt, bytesAt, List.take_succ_cons, ih _ (Nat.le_add_right n m)]

theorem length_bytesAt (s : State) (a : Word) (n : Nat) : (bytesAt s a n).length = n := by
  induction n generalizing a with
  | zero => rfl
  | succ n ih => rw [bytesAt, List.length_cons, ih]

theorem add_one_add_ofNat (a : Word) (n : Nat) : a + 1 + BitVec.ofNat 16 n = a + BitVec.ofNat 16 (n + 1) := by
  rw [BitVec.add_assoc, Nat.add_comm n 1, BitVec.ofNat_add]
  rfl

/-- Fetching reads the bytes from PC on and leaves PC past them. -/
theorem fetchBytes_mapped {s : State} (hm : Mapped s) (n : Nat) :
    fetchBytes n s = .next (bytesAt s s.cpu.pc n, s.setPc (s.cpu.pc + BitVec.ofNat 16 n)) := by
  induction n generalizing s with
  | zero => simp [fetchBytes, bytesAt, State.setPc]
  | succ n ih =>
    have hm' : Mapped (s.setPc (s.cpu.pc + 1)) := hm
    simp only [fetchBytes, fetch8_mapped hm, andThen_next, ih hm', bytesAt_congr (readByte_setPc s _)]
    rw [bytesAt, ← add_one_add_ofNat]
    rfl

theorem opcodeLength_pos (op : Byte) : 0 < opcodeLength op := by
  revert op
  decide +kernel

/-- An instruction is read from as many bytes as its opcode asks for; bytes that are none are the fault of their
opcode (R214, R215). -/
theorem fetchInstr_mapped {s : State} (hm : Mapped s) {op : Byte} (hop : readByte s s.cpu.pc = op) :
    fetchInstr s = match decode (bytesAt s s.cpu.pc (opcodeLength op)) with
      | .ok r => .next (r.1, s.setPc (s.cpu.pc + BitVec.ofNat 16 (opcodeLength op)))
      | .error _ => stopWith (.illegalOpcode op) (s.setPc (s.cpu.pc + BitVec.ofNat 16 (opcodeLength op))) := by
  obtain ⟨n, hn⟩ := Nat.exists_eq_add_of_lt (opcodeLength_pos op)
  rw [Nat.zero_add] at hn
  have hm' : Mapped (s.setPc (s.cpu.pc + 1)) := hm
  simp only [fetchInstr, fetch8_mapped hm, andThen_next, hop, hn, Nat.add_sub_cancel, fetchBytes_mapped hm', bytesAt,
    bytesAt_congr (readByte_setPc s _), pc_setPc, ← add_one_add_ofNat]
  cases decode (op :: bytesAt s (s.cpu.pc + 1) n) <;> rfl

/-! ### The step of what was decoded -/

/-- The opcode of a decoded instruction asks for the instruction's length. -/
theorem opcodeLength_of_decode {op : Byte} {tail rest : List Byte} {i : Instr}
    (h : decode (op :: tail) = .ok (i, rest)) : opcodeLength op = i.length := by
  have hb := (encodeOfDecode _ _ _ h).2
  rw [encode_eq_cons] at hb
  rw [List.head_eq_of_cons_eq hb, opcodeLength_opcodeOf]

/-- A decoded instruction's bytes are enough to decode it. -/
theorem decode_take_length {bytes rest : List Byte} {i : Instr} (h : decode bytes = .ok (i, rest)) :
    i.length ≤ bytes.length ∧ decode (bytes.take i.length) = .ok (i, []) := by
  obtain ⟨hw, rfl⟩ := encodeOfDecode _ _ _ h
  refine ⟨by rw [List.length_append, length_encode]; exact Nat.le_add_right _ _, ?_⟩
  rw [List.take_left' (length_encode i), ← decode_encode hw [], List.append_nil]

/-- A ready machine fetches, executes and then runs the device phases. -/
theorem step_of_ready {s : State} (h : Ready s) : step s =
    andThen (andThen (fetchInstr { s with extra := 0 }) fun x => exec x.1 x.2) (devicePhases s.cpu.doubleSpeed) := by
  obtain ⟨running, configured, awake, -⟩ := h
  simp only [step, machineStep, running, configured, executePhase, awake, Bool.false_eq_true, if_false]

theorem fetchInstr_of_decode {s : State} (hm : Mapped s) {i : Instr} {n : Nat} {rest : List Byte}
    (h : decode (bytesAt s s.cpu.pc n) = .ok (i, rest)) :
    fetchInstr s = .next (i, s.setPc (s.cpu.pc + BitVec.ofNat 16 i.length)) := by
  obtain ⟨hle, hd⟩ := decode_take_length h
  rw [length_bytesAt] at hle
  rw [take_bytesAt _ _ hle] at hd
  cases n with
  | zero => cases h
  | succ n => rw [fetchInstr_mapped hm rfl, opcodeLength_of_decode h, hd]

/-- Phases b to e written out (R510). -/
theorem devicePhases_eq (fast : Bool) (t : State) : devicePhases fast t =
    andThen (ppuAdvance (dotsOf fast (stepTicks t)) (timerAdvance (stepTicks t) (applyPending (clearStall t)))) fun u =>
      dispatch (haltExit (serialTick (soundAdvance (dotsOf fast (stepTicks t)) u))) :=
  andThen_assoc _ _ _

/-- A step that decodes an instruction executes it with PC past its bytes. -/
theorem step_of_decode {s : State} (hr : Ready s) {i : Instr} {n : Nat} {rest : List Byte}
    (h : decode (bytesAt s s.cpu.pc n) = .ok (i, rest)) : step s =
    andThen (exec i { s.setPc (s.cpu.pc + BitVec.ofNat 16 i.length) with extra := 0 })
      (devicePhases s.cpu.doubleSpeed) := by
  have hm : Mapped { s with extra := 0 } := hr.mapped
  rw [← bytesAt_congr (readByte_setExtra s 0)] at h
  rw [step_of_ready hr, fetchInstr_of_decode hm h]
  rfl

/-- Settles O8: the fetch takes the bytes of what was decoded, and the phases are `devicePhases_eq`. -/
theorem stepRunsDecodedInstruction : Obligations.StepRunsDecodedInstruction := by
  intro s i rest hr h
  rw [← add_one_add_one] at h
  rw [step_of_decode (n := 3) hr h]
  exact congrArg _ (funext (devicePhases_eq _))

/-! ### Illegal opcodes -/

/-- The illegal opcodes (R214). -/
def illegalOpcodes : List Byte := [0xD3, 0xDB, 0xDD, 0xE3, 0xE4, 0xEB, 0xEC, 0xED, 0xF4, 0xFC, 0xFD]

/-- The illegal cells of the primary map (R212) are those at the illegal opcodes. -/
theorem form_primaryInstr_eq_illegal_iff (op : Byte) :
    (primaryInstr op 0 0).form = .illegal op ↔ op ∈ illegalOpcodes := by
  revert op
  decide +kernel

/-- An illegal opcode is a whole instruction, whatever follows. -/
theorem decode_illegal {op : Byte} (h : op ∈ illegalOpcodes) (rest : List Byte) :
    decode (op :: rest) = .ok (primaryInstr op 0 0, rest) := by
  refine decode_one ?_ rest
  rw [opcodeLength, length_of_form ((form_primaryInstr_eq_illegal_iff op).2 h)]
  rfl

theorem exec_illegal {i : Instr} {op : Byte} (h : i.form = .illegal op) (s : State) :
    exec i s = .fault (.illegalOpcode op { s with fault := some (.illegalOpcode op) }) :=
  exec_of_form h s

/-- Settles O6: the map by decision, the rest by the one meaning of the illegal rows. -/
theorem illegalOpcodesStop : Obligations.IllegalOpcodesStop := by
  refine ⟨fun op => ⟨fun h => ?_, ?_⟩, fun i op s h => exec_illegal h s, fun s op hr hop h => ?_⟩
  · exact ⟨_, (form_primaryInstr_eq_illegal_iff op).2 h, decode_illegal h []⟩
  · rintro ⟨i, hf, hd⟩
    have hl : opcodeLength op = 1 := (opcodeLength_of_decode hd).trans (length_of_form hf)
    rw [decode_one hl] at hd
    cases hd
    exact (form_primaryInstr_eq_illegal_iff op).1 hf
  · have hf := (form_primaryInstr_eq_illegal_iff op).2 h
    have hd : decode (bytesAt s s.cpu.pc 1) = .ok (primaryInstr op 0 0, []) := by
      rw [bytesAt, hop]
      exact decode_illegal h []
    rw [step_of_decode hr hd, exec_illegal hf, length_of_form hf]
    rfl

/-! ### STOP -/

theorem speedSwitch_armed {s : State} (hm : s.model = .cgb) (ha : s.cpu.key1Armed = true) : speedSwitch 0 s =
    .next (({ s with cpu :=
      { s.cpu with doubleSpeed := !s.cpu.doubleSpeed, key1Armed := false } } : State).setCost 4) := by
  simp [speedSwitch, State.cgb, hm, ha]

theorem speedSwitch_not_armed {s : State} (h : ¬ (s.model = .cgb ∧ s.cpu.key1Armed = true)) :
    speedSwitch 0 s = stopWith .stopNotArmed s := by
  have hc : ¬ (s.cgb && s.cpu.key1Armed) = true := by simpa [State.cgb] using h
  rw [speedSwitch, if_neg (not_not_intro rfl), if_neg hc]

theorem speedSwitch_nonzero {b : Byte} (hb : b ≠ 0) (s : State) :
    speedSwitch b s = stopWith (.illegalOpcode 0x10) s :=
  if_pos hb

/-- Fetching 0x10 before a byte other than 0x00 is the fault of an illegal opcode, with PC past both (R215). -/
theorem fetchInstr_stop_nonzero {s : State} (hm : Mapped s) (hop : readByte s s.cpu.pc = 0x10)
    (hb : readByte s (s.cpu.pc + 1) ≠ 0) :
    fetchInstr s = stopWith (.illegalOpcode 0x10) (s.setPc (s.cpu.pc + 2)) := by
  have hl : opcodeLength 0x10 = 2 := rfl
  rw [fetchInstr_mapped hm hop, hl, bytesAt, bytesAt, bytesAt, hop, decode_stop_error hb]
  rfl

/-- Settles O7: the three cases of `speedSwitch`, and the fetch that finds no STOP. -/
theorem stopSwitchesSpeed : Obligations.StopSwitchesSpeed := by
  refine ⟨fun i b s hf => ?_, fun s hr hop hb => ?_⟩
  · rw [exec_of_form hf]
    refine ⟨?_, ?_, speedSwitch_nonzero (s := s)⟩
    · rintro rfl
      exact speedSwitch_armed
    · rintro rfl
      exact speedSwitch_not_armed
  · have hm : Mapped { s with extra := 0 } := hr.mapped
    rw [step_of_ready hr, fetchInstr_stop_nonzero hm hop hb]
    rfl

end Sys2Proof.Machine

/-! PROOFS of the statements about the 8-bit loads (spec/40_loads8.md): between registers, from memory, and to memory
with its fault at an I/O address that holds no register (R52). -/

namespace Sys2Proof.Machine

/-! ### Loads of a register -/

theorem loadR8_registers {dst src : R8} {p q : Reg} (hd : dst.reg = some p) (hr : src.reg = some q) (s : State) :
    loadR8 dst src s = .next ((s.setReg p (s.reg q)).setCost 4) := by
  simp [loadR8, readR8_reg hr, writeR8_reg hd, r8Cost_reg hd, r8Cost_reg hr]

theorem loadR8Imm_register {dst : R8} {p : Reg} (hd : dst.reg = some p) (n : Byte) (s : State) :
    loadR8Imm dst n s = .next ((s.setReg p n).setCost 8) := by
  simp [loadR8Imm, writeR8_reg hd, r8Cost_reg hd]

/-- Settles O11: the operands are registers, so nothing is read or written elsewhere. -/
theorem loadRegister : Obligations.LoadRegister :=
  fun _ s _ _ hd =>
    ⟨fun _ _ hf hr => (exec_of_form hf s).trans (loadR8_registers hd hr s),
      fun n hf => (exec_of_form hf s).trans (loadR8Imm_register hd n s)⟩

/-! ### Loads from memory -/

theorem loadR8_fromMemory {s : State} (hm : Mapped s) {dst : R8} {p : Reg} (hd : dst.reg = some p) :
    loadR8 dst .hlMem s = .next ((s.setReg p (readByte s s.hl)).setCost 8) := by
  simp [loadR8, memRead_mapped hm, writeR8_reg hd, r8Cost_reg hd]

theorem loadInd_mapped {s : State} (hm : Mapped s) (m : R16Mem) :
    loadInd m s = .next ((indAfter m (s.setReg .a (readByte s (indAddr m s)))).setCost 8) := by
  rw [loadInd, memRead_mapped hm, andThen_next]

theorem loadA_mapped {s : State} (hm : Mapped s) (a : Word) (n : Nat) :
    loadA a n s = .next ((s.setReg .a (readByte s a)).setCost n) := by
  rw [loadA, memRead_mapped hm, andThen_next]

/-- Settles O12: on a mapped cartridge every read goes on, and writing A leaves HL to be moved as it was. -/
theorem loadFromMemory : Obligations.LoadFromMemory := by
  intro i s hm
  have ind {m : R16Mem} (hf : i.form = .ldAInd m) := (exec_of_form hf s).trans (loadInd_mapped hm m)
  exact ⟨fun _ _ hf hd => (exec_of_form hf s).trans (loadR8_fromMemory hm hd), ind, ind, ind, ind,
    fun a hf => (exec_of_form hf s).trans (loadA_mapped hm a 16),
    fun a hf => (exec_of_form hf s).trans (loadA_mapped hm (highPage a) 12),
    fun hf => (exec_of_form hf s).trans (loadA_mapped hm (highPage s.cpu.c) 8)⟩

/-! ### Stores -/

/-- What follows a write may be told from what the write never changes. -/
theorem andThen_memWrite_congr {α : Type} {s : State} {a : Word} {v : Byte} {f g : State → Out α}
    (h : ∀ t, WriteFrame s t → f t = g t) : andThen (memWrite s a v) f = andThen (memWrite s a v) g := by
  cases hw : memWrite s a v
  case next t => exact h t (memWrite_frame hw)
  all_goals rfl

/-- The HL that a store moves is the HL it began with: not even a write to an I/O register changes it. -/
theorem storeInd_hlInc (s : State) : storeInd .hlInc s =
    andThen (memWrite s s.hl s.cpu.a) fun t => .next ((t.setR16 .hl (s.hl + 1)).setCost 8) :=
  andThen_memWrite_congr fun t hf => by rw [indAfter, hf.hl]

theorem storeInd_hlDec (s : State) : storeInd .hlDec s =
    andThen (memWrite s s.hl s.cpu.a) fun t => .next ((t.setR16 .hl (s.hl - 1)).setCost 8) :=
  andThen_memWrite_congr fun t hf => by rw [indAfter, hf.hl]

theorem loadR8_toMemory {src : R8} {p : Reg} (hr : src.reg = some p) (s : State) :
    loadR8 .hlMem src s = andThen (memWrite s s.hl (s.reg p)) fun t => .next (t.setCost 8) := by
  simp [loadR8, readR8_reg hr, r8Cost_reg hr]

/-- One write and what follows it: completion off the I/O addresses that hold no register, and the fault there. -/
theorem exec_of_store {i : Instr} {s : State} {a : Word} {v : Byte} {k : State → State} (hm : Mapped s)
    (he : exec i s = andThen (memWrite s a v) fun t => .next (k t)) :
    (¬ Unimplemented a → ∃ t, memWrite s a v = .next t ∧ exec i s = .next (k t)) ∧
    (Unimplemented a → exec i s = .fault (.unimplementedIOWrite a { s with fault := some (.unimplementedIOWrite a) })) := by
  refine ⟨fun ha => ?_, fun ha => ?_⟩
  · obtain ⟨t, ht⟩ := memWrite_completes hm ha v
    exact ⟨t, ht, by rw [he, ht, andThen_next]⟩
  · rw [he, memWrite_unimplemented s ha, andThen_stopWith]
    rfl

/-- Settles O13: every form is one write and what follows it, in two of them a move of the HL of before the write. -/
theorem storeByte : Obligations.StoreByte :=
  fun _ s hm =>
    ⟨fun _ _ hf hr => exec_of_store hm ((exec_of_form hf s).trans (loadR8_toMemory hr s)),
      fun _ hf => exec_of_store hm (exec_of_form hf s),
      fun hf => exec_of_store hm (exec_of_form hf s),
      fun hf => exec_of_store hm (exec_of_form hf s),
      fun hf => exec_of_store hm ((exec_of_form hf s).trans (storeInd_hlInc s)),
      fun hf => exec_of_store hm ((exec_of_form hf s).trans (storeInd_hlDec s)),
      fun _ hf => exec_of_store hm (exec_of_form hf s),
      fun _ hf => exec_of_store hm (exec_of_form hf s),
      fun hf => exec_of_store hm (exec_of_form hf s)⟩

end Sys2Proof.Machine

/-! PROOFS of the statements about the 16-bit loads and the stack (spec/41_loads16.md), and of the frame of every form
that stores two bytes. -/

namespace Sys2Proof.Machine

/-! ### Loads of a word -/

/-- R326 over the numbers of SP and the raw byte. -/
theorem spOffsetFlags_eq (sp : Word) (e : Byte) : spOffsetFlags sp e =
    { z := false, n := false
      h := decide (sp.toNat % 16 + e.toNat % 16 > 15)
      c := decide (sp.toNat % 256 + e.toNat > 255) } := by
  simp [spOffsetFlags, field_eq]

theorem putFlags_spOffsetFlags (s : State) (sp : Word) (e : Byte) : s.putFlags (spOffsetFlags sp e) =
    s.setFlags false false (decide (sp.toNat % 16 + e.toNat % 16 > 15)) (decide (sp.toNat % 256 + e.toNat > 255)) := by
  rw [spOffsetFlags_eq, State.putFlags]

/-- Settles O14: the two sums with SP share their flag law. -/
theorem loadWord : Obligations.LoadWord := by
  intro i s
  refine ⟨fun r d hf => exec_of_form hf s, fun hf => exec_of_form hf s, fun e hf => ?_, fun e hf => ?_⟩
  · rw [exec_of_form hf, formMeaning, loadHlSp, putFlags_spOffsetFlags, sext16]
  · rw [exec_of_form hf, formMeaning, addSp, putFlags_spOffsetFlags, sext16]

/-! ### Stack pairs -/

/-- POP on a mapped cartridge's machine: the pair takes the two bytes at SP (R325). -/
theorem popPair_mapped {s : State} (hm : Mapped s) (r : R16Stk) : popPair r s =
    .next (((s.setSp (s.cpu.sp + 2)).setR16stk r
      (pairOf (readByte s (s.cpu.sp + 1)) (readByte s s.cpu.sp))).setCost 12) := by
  rw [popPair, pop16_mapped hm, andThen_next]

/-- Settles O17: the two bytes of the popped word go to their halves of the pair, F's to its high nibble. -/
theorem popPair_spec : Obligations.PopPair := by
  intro i s hm
  have pop {r : R16Stk} (hf : i.form = .pop r) := (exec_of_form hf s).trans (popPair_mapped hm r)
  refine ⟨fun hf => ?_, fun hf => ?_, fun hf => ?_, fun hf => ?_⟩ <;>
    rw [pop hf, State.setR16stk, hiByte_pairOf, loByte_pairOf] <;> rfl

theorem WriteFrame.sp {s t : State} (h : WriteFrame s t) : t.cpu.sp = s.cpu.sp := by rw [h.cpu]

/-- Settles O16: the push completes, and its writes leave SP as it was moved. -/
theorem pushPair_spec : Obligations.PushPair := by
  intro i s r hf hm hp
  obtain ⟨t, u, ht, hu, frame, hpush⟩ := push16_completes (s.r16stk r) hm hp
  refine ⟨t, u, ht, hu, frame.sp, ?_⟩
  rw [exec_of_form hf, formMeaning, pushPair, hpush, andThen_next]

/-- Settles O15: neither write stops, and the first leaves SP for the second. -/
theorem storeStackPointer : Obligations.StoreStackPointer := by
  intro i s a hf hm ha hb
  obtain ⟨t, ht⟩ := memWrite_completes hm ha (loByte s.cpu.sp)
  have frame := memWrite_frame ht
  obtain ⟨u, hu⟩ := memWrite_completes (frame.mapped hm) hb (hiByte s.cpu.sp)
  refine ⟨t, u, ht, hu, ?_⟩
  rw [exec_of_form hf, formMeaning, storeSp, ht, andThen_next, frame.sp, hu, andThen_next]

/-! ### Neighbouring places -/

/-- The last bit of the cell a plain place names; IE stands at the odd address 0xFFFF. -/
def Loc.parity : Loc → Nat
  | .vram i | .eram i | .wram i | .oam i | .hram i => i % 2
  | .ie => 1
  | .rom _ | .mbc2ram _ | .rtc _ | .openBus | .io _ => 0

theorem wramLoc_parity (s : State) {n : Nat} (h : 0xC000 ≤ n) : (wramLoc s n).parity = n % 2 := by
  unfold wramLoc
  split <;> simp only [Loc.parity] <;> omega

theorem eramLoc_parity {s : State} {off : Nat} (h : (eramLoc s off).plain = true) :
    (eramLoc s off).parity = off % 2 := by
  revert h
  unfold eramLoc
  split
  · exact nofun
  · split_ifs
    · exact nofun
    · intro _
      simp only [Loc.parity]
      omega

/-- Plain memory in the cartridge's window is external RAM. -/
theorem extLoc_plain {s : State} {off : Nat} (h : (extLoc s off).plain = true) : extLoc s off = eramLoc s off := by
  revert h
  unfold extLoc
  split_ifs
  · exact nofun
  · split
    · exact nofun
    · split
      · exact nofun
      · exact fun _ => rfl
    · exact fun _ => rfl

theorem extLoc_parity {s : State} {off : Nat} (h : (extLoc s off).plain = true) :
    (extLoc s off).parity = off % 2 := by
  have he := extLoc_plain h
  rw [he] at h ⊢
  exact eramLoc_parity h

/-- A bank begins at an even cell, so a plain place has the parity of its address. -/
theorem locOf_parity {s : State} {a : Word} (h : (locOf s a).plain = true) : (locOf s a).parity = a.toNat % 2 := by
  have ha := a.isLt
  revert h
  unfold locOf
  dsimp only
  split_ifs <;> intro h
  · cases h
  · cases h
  · simp only [Loc.parity]; omega
  · rw [extLoc_parity h]; omega
  · rw [wramLoc_parity s (by omega)]
  · rw [wramLoc_parity s (by omega)]; omega
  · simp only [Loc.parity]; omega
  · rw [wramLoc_parity s (by omega)]; omega
  · cases h
  · simp only [Loc.parity]; omega
  · simp only [Loc.parity]; omega

/-- Neighbouring plain addresses name different places, at the seams of the map too: their parities differ. -/
theorem locOf_ne_locOf_add_one {s : State} {a : Word} (ha : PlainStore s a) (hb : PlainStore s (a + 1)) :
    locOf s a ≠ locOf s (a + 1) := by
  intro h
  have parity : a.toNat % 2 = (a + 1).toNat % 2 := by rw [← locOf_parity ha.1, ← locOf_parity hb.1, h]
  bv_omega

/-! ### Two writes -/

theorem SameDevices.trans {s t u : State} (h : SameDevices s t) (k : SameDevices t u) : SameDevices s u :=
  ⟨k.model.trans h.model, k.cart.trans h.cart, k.requests.trans h.requests, k.mbc.trans h.mbc, k.hdma.trans h.hdma,
    k.timer.trans h.timer, k.ppu.trans h.ppu, k.sound.trans h.sound, k.keypad.trans h.keypad,
    k.serial.trans h.serial, k.host.trans h.host, k.extra.trans h.extra, k.fault.trans h.fault⟩

theorem SameOutside.devices {s t : State} (h : SameOutside s t) : SameDevices s t :=
  ⟨h.model, h.cart, by rw [h.irq], h.mbc, h.hdma, h.timer, h.ppu, h.sound, h.keypad, h.serial, h.host, h.extra,
    h.fault⟩

/-- What two writes at plain places leave. -/
structure TwoStored (s t : State) (a b : Word) (v w : Byte) : Prop where
  first : readByte t a = v
  second : readByte t b = w
  others : ∀ c, locOf s c ≠ locOf s a → locOf s c ≠ locOf s b → readByte t c = readByte s c
  devices : SameDevices s t
  armed : t.cpu.key1Armed = s.cpu.key1Armed

theorem TwoStored.symm {s t : State} {a b : Word} {v w : Byte} (h : TwoStored s t a b v w) : TwoStored s t b a w v :=
  ⟨h.second, h.first, fun c ha hb => h.others c hb ha, h.devices, h.armed⟩

/-- A transfer of control and the cost leave what was stored. -/
theorem TwoStored.setPc_setCost {s t : State} {a b : Word} {v w : Byte} (h : TwoStored s t a b v w) (pc : Word)
    (n : Nat) : TwoStored s ((t.setPc pc).setCost n) a b v w := by
  have outside : SameOutside t ((t.setPc pc).setCost n) := sameOutside_cpu t _ n
  have same (c : Word) : readByte ((t.setPc pc).setCost n) c = readByte t c := readByte_same outside rfl rfl c
  exact ⟨(same a).trans h.first, (same b).trans h.second, fun c ha hb => (same c).trans (h.others c ha hb),
    h.devices.trans outside.devices, h.armed⟩

/-- A write at a plain place with SP moved before it: `memWrite_plain_spec` from the state before the move. -/
theorem memWrite_setSp_plain {s t : State} {x a : Word} {v : Byte} (ha : PlainStore s a)
    (h : memWrite (s.setSp x) a v = .next t) : readByte t a = v ∧ SameBytesBut (locOf s a) s t ∧ SameDevices s t ∧
      t.cpu.key1Armed = s.cpu.key1Armed ∧ ∀ b, locOf t b = locOf s b := by
  obtain ⟨t', ht, read, others, dev, cpu, -, loc⟩ := memWrite_plain_spec (s := s.setSp x) v ha
  obtain rfl : t' = t := Host.Outcome.next.inj (ht.symm.trans h)
  have moved : SameDevices s (s.setSp x) := (sameOutside_cpu s _ s.cost).devices
  exact ⟨read, fun b hb => (others b hb).trans (readByte_setSp s x b), moved.trans dev, by rw [cpu]; rfl, loc⟩

/-- The second write is at another place, so it leaves what the first stored. -/
theorem twoStored_of_memWrite {s t u : State} {x y a b : Word} {v w : Byte} (ha : PlainStore s a)
    (hb : PlainStore s b) (hab : locOf s a ≠ locOf s b) (ht : memWrite (s.setSp x) a v = .next t)
    (hu : memWrite (t.setSp y) b w = .next u) : TwoStored s u a b v w := by
  obtain ⟨first, others, dev, armed, loc⟩ := memWrite_setSp_plain ha ht
  have hb' : PlainStore t b := ⟨by rw [loc]; exact hb.1, hb.2⟩
  obtain ⟨second, others', dev', armed', -⟩ := memWrite_setSp_plain hb' hu
  have kept (c : Word) (hc : locOf s c ≠ locOf s b) : readByte u c = readByte t c :=
    others' c (by rwa [loc, loc])
  exact ⟨(kept a hab).trans first, second, fun c hca hcb => (kept c hcb).trans (others c hca), dev.trans dev',
    armed'.trans armed⟩

/-- A word stored at `a` by two writes in either order, with SP moved to `sp` on the way. -/
structure WordStored (s t : State) (a w sp : Word) : Prop where
  frame : WriteFrame (s.setSp sp) t
  plain : PlainStore s a → PlainStore s (a + 1) → TwoStored s t a (a + 1) (loByte w) (hiByte w)

/-- The order of `LD (a16),SP` (R321). -/
theorem wordStored_of_lowFirst {s t u : State} {a w : Word} (ht : memWrite s a (loByte w) = .next t)
    (hu : memWrite t (a + 1) (hiByte w) = .next u) : WordStored s u a w s.cpu.sp :=
  ⟨(memWrite_frame ht).trans (memWrite_frame hu), fun ha hb =>
    twoStored_of_memWrite (x := s.cpu.sp) (y := t.cpu.sp) ha hb (locOf_ne_locOf_add_one ha hb) ht hu⟩

/-- A push writes the upper address first (R324). -/
theorem wordStored_of_push16 {s t : State} {w : Word} (h : push16 w s = .next t) :
    WordStored s t (s.cpu.sp - 2) w (s.cpu.sp - 2) := by
  obtain ⟨u, hu, ht, frame⟩ := push16_eq_next h
  refine ⟨frame, fun ha hb => ?_⟩
  have upper : s.cpu.sp - 1 = s.cpu.sp - 2 + 1 := by bv_omega
  rw [upper] at hu
  exact (twoStored_of_memWrite hb ha (locOf_ne_locOf_add_one ha hb).symm hu ht).symm

/-! ### Forms that store two bytes -/

/-- A word stored by a form, and what follows: PC, which only the transfers move, and the cost. -/
def StoresWord (f : Form) (s t : State) (a w sp : Word) : Prop :=
  ∃ u pc n, WordStored s u a w sp ∧ (transfers f = false → pc = u.cpu.pc) ∧ t = (u.setPc pc).setCost n

theorem storesWord_of_callTo {f : Form} {s t : State} {a : Word} {n : Nat} (hf : transfers f = true)
    (h : callTo a n s = .next t) : StoresWord f s t (s.cpu.sp - 2) s.cpu.pc (s.cpu.sp - 2) := by
  obtain ⟨u, hu, rfl⟩ := andThen_pure_eq_next h
  exact ⟨u, a, n, wordStored_of_push16 hu, fun h => absurd hf (by simp [h]), rfl⟩

/-- The forms that store a word, each by its two writes. -/
theorem storesWord_of_wordStore {f : Form} {s t : State} {a w : Word} (hw : wordStore f s = some (a, w))
    (ht : formMeaning f s = .next t) :
    StoresWord f s t a w (if writesSp f then s.cpu.sp - 2 else s.cpu.sp) := by
  cases f
  case ldMemSp =>
    cases hw
    obtain ⟨u, hu, h2⟩ := andThen_eq_next.1 ht
    obtain ⟨v, hv, rfl⟩ := andThen_pure_eq_next h2
    rw [(memWrite_frame hu).sp] at hv
    exact ⟨v, v.cpu.pc, 20, wordStored_of_lowFirst hu hv, fun _ => rfl, rfl⟩
  case push r =>
    cases hw
    obtain ⟨u, hu, rfl⟩ := andThen_pure_eq_next ht
    exact ⟨u, u.cpu.pc, 16, wordStored_of_push16 hu, fun _ => rfl, rfl⟩
  case call n =>
    cases hw
    exact storesWord_of_callTo rfl ht
  case callCc cc n =>
    obtain ⟨hc, e⟩ := Option.ite_none_right_eq_some.1 hw
    cases e
    rw [formMeaning, callIf, if_pos hc] at ht
    exact storesWord_of_callTo rfl ht
  case rst n =>
    cases hw
    exact storesWord_of_callTo rfl ht
  all_goals cases hw

/-- Settles O35: the form stores its word, at places that differ when they are plain, and then at most moves PC. -/
theorem frameOfWordStores : Obligations.FrameOfWordStores := by
  intro i s t a w hw ht
  obtain ⟨u, pc, n, ⟨frame, plain⟩, hpc, rfl⟩ := storesWord_of_wordStore hw (exec_eq_formMeaning i s ▸ ht)
  refine ⟨fun r _ => ?_, frame.f, frame.sp, fun h => (hpc h).trans (congrArg Cpu.pc frame.cpu :),
    (congrArg Cpu.ime frame.cpu :), (congrArg Cpu.halted frame.cpu :), (congrArg Cpu.pending frame.cpu :),
    (congrArg Cpu.doubleSpeed frame.cpu :), fun ha hb => ?_⟩
  · calc
      ((u.setPc pc).setCost n).reg r = u.reg r := by cases r <;> rfl
      _ = (s.setSp _).reg r := frame.reg r
      _ = s.reg r := by cases r <;> rfl
  · obtain ⟨low, high, others, dev, armed⟩ := (plain ha hb).setPc_setCost pc n
    exact ⟨low, high, others, dev, armed⟩

end Sys2Proof.Machine

/-! PROOFS of the statements about the 8-bit arithmetic and logic (spec/42_alu8.md). -/

namespace Sys2Proof.Machine

/-! ### Operations on A -/

/-- Whatever its source, an operation on A is `aluOn` of the source's byte, at the source's cost (R340). -/
theorem exec_of_aluSource {i : Instr} {s : State} {op : AluOp} {v : Byte} {n : Nat} (hm : Mapped s)
    (h : aluSource i.form s = some (op, v, n)) : exec i s = .next (aluOn op v n s) := by
  rw [exec_eq_formMeaning]
  cases hf : i.form <;> rw [hf] at h
  case alu o r =>
    cases hr : r.reg <;> simp only [aluSource, hr] at h <;> cases h
    case none =>
      obtain rfl := R8_reg_eq_none.1 hr
      rw [formMeaning, aluR8, readR8_mem, memRead_mapped hm, andThen_next, r8Cost_mem]
    case some p => rw [formMeaning, aluR8, readR8_reg hr, andThen_next, r8Cost_reg hr]
  case aluImm o d =>
    cases h
    rfl
  all_goals cases h

theorem ofNat8_eq_zero_iff (m : Nat) : BitVec.ofNat 8 m = 0 ↔ m % 256 = 0 := by
  rw [← BitVec.toNat_inj, BitVec.toNat_ofNat]
  rfl

theorem aluAccumulator_of_ne_cp {op : AluOp} (hop : op ≠ .cp) (a v : Byte) (c : Bool) :
    aluAccumulator op a v c = aluResult op a v c := by
  rw [aluAccumulator]
  exact hop

theorem a_aluOn {op : AluOp} (hop : op ≠ .cp) (s : State) (v : Byte) (n : Nat) :
    (aluOn op v n s).cpu.a = aluResult op s.cpu.a v s.cf := aluAccumulator_of_ne_cp hop ..

@[simp] theorem nf_aluOn (op : AluOp) (s : State) (v : Byte) (n : Nat) : (aluOn op v n s).nf = aluSubtract op :=
  nf_setFlags ..

@[simp] theorem hf_aluOn (op : AluOp) (s : State) (v : Byte) (n : Nat) :
    (aluOn op v n s).hf = aluHalf op s.cpu.a v s.cf := hf_setFlags ..

@[simp] theorem cf_aluOn (op : AluOp) (s : State) (v : Byte) (n : Nat) :
    (aluOn op v n s).cf = aluCarry op s.cpu.a v s.cf := cf_setFlags ..

/-- An operation that writes A, from its result as an exact integer. -/
theorem aluOn_of_result {op : AluOp} {s : State} {v : Byte} {m : Nat}
    (h : aluResult op s.cpu.a v s.cf = BitVec.ofNat 8 m) (hop : op ≠ .cp) (n : Nat) : aluOn op v n s =
      ((s.setReg .a (BitVec.ofNat 8 m)).setFlags (decide (m % 256 = 0)) (aluSubtract op)
        (aluHalf op s.cpu.a v s.cf) (aluCarry op s.cpu.a v s.cf)).setCost n := by
  simp only [aluOn, aluAccumulator_of_ne_cp hop, aluFlags, h, ofNat8_eq_zero_iff, State.putFlags]

/-- R348: the difference is only tested, and it is 0 when the operands are equal. -/
theorem aluOn_cp (s : State) (v : Byte) (n : Nat) : aluOn .cp v n s =
    (s.setFlags (decide (s.cpu.a.toNat = v.toNat)) true (decide (s.cpu.a.toNat % 16 < v.toNat % 16))
      (decide (s.cpu.a.toNat < v.toNat))).setCost n := by
  have zero : s.cpu.a - v = 0 ↔ s.cpu.a.toNat = v.toNat := by bv_omega
  have keep : s.setReg .a (aluAccumulator .cp s.cpu.a v s.cf) = s := setReg_self s .a
  simp only [aluOn, keep, aluFlags, aluResult, zero]
  rfl

theorem toNat_bitByte (c : Bool) : (bitByte c).toNat = c.toNat := by cases c <;> rfl

theorem aluResult_add (a v : Byte) (c : Bool) : aluResult .add a v c = BitVec.ofNat 8 (a.toNat + v.toNat) :=
  BitVec.add_def a v

theorem aluResult_adc (a v : Byte) (c : Bool) :
    aluResult .adc a v c = BitVec.ofNat 8 (a.toNat + v.toNat + c.toNat) := by
  rw [← toNat_bitByte, BitVec.ofNat_add, BitVec.ofNat_add]
  simp [aluResult]

theorem aluResult_sub (a v : Byte) (c : Bool) :
    aluResult .sub a v c = BitVec.ofNat 8 (256 + a.toNat - v.toNat) := by
  rw [aluResult]
  bv_omega

theorem aluResult_sbc (a v : Byte) (c : Bool) :
    aluResult .sbc a v c = BitVec.ofNat 8 (512 + a.toNat - v.toNat - c.toNat) := by
  rw [← toNat_bitByte, aluResult]
  bv_omega

/-- Settles O18: `aluOn` of the source's byte, with each operation's result as an exact integer. -/
theorem aluArithmetic : Obligations.AluArithmetic := by
  intro i s op v n hm hs
  have run := exec_of_aluSource hm hs
  refine ⟨?_, ?_, ?_, ?_, ?_⟩ <;> rintro rfl
  · exact run.trans (congrArg _ (aluOn_of_result (aluResult_add ..) nofun n))
  · exact run.trans (congrArg _ (aluOn_of_result (aluResult_adc ..) nofun n))
  · exact run.trans (congrArg _ (aluOn_of_result (aluResult_sub ..) nofun n))
  · exact run.trans (congrArg _ (aluOn_of_result (aluResult_sbc ..) nofun n))
  · exact run.trans (congrArg _ (aluOn_cp s v n))

/-- Settles O19: the model's result and flags of each logic operation are those of its rule. -/
theorem aluLogic : Obligations.AluLogic := by
  intro i s op v n hm hs
  have run := exec_of_aluSource hm hs
  exact ⟨by rintro rfl; exact run, by rintro rfl; exact run, by rintro rfl; exact run⟩

/-! ### Increment and decrement -/

/-- An instruction that reads an operand, writes it and then changes the CPU: on a register, and on the byte at HL,
where it completes as its one write does. -/
theorem exec_of_readModifyWrite {i : Instr} {s : State} {r : R8} {g : Byte → Byte} {f : Byte → State → State} {n m : Nat}
    (he : exec i s = andThen (readR8 r s) fun v =>
      andThen (writeR8 r (g v) s) fun t => .next ((f v t).setCost (r8Cost r n m))) :
    (∀ p, r.reg = some p → exec i s = .next ((f (s.reg p) (s.setReg p (g (s.reg p)))).setCost n)) ∧
    (r.reg = none → Mapped s → ¬ Unimplemented s.hl →
      ∃ t, memWrite s s.hl (g (readByte s s.hl)) = .next t ∧
        exec i s = .next ((f (readByte s s.hl) t).setCost m)) := by
  refine ⟨fun p hr => ?_, fun hr hm ha => ?_⟩
  · rw [he, readR8_reg hr, andThen_next, writeR8_reg hr, andThen_next, r8Cost_reg hr]
  · obtain rfl := R8_reg_eq_none.1 hr
    obtain ⟨t, ht⟩ := memWrite_completes hm ha (g (readByte s s.hl))
    exact ⟨t, ht, by rw [he, readR8_mem, memRead_mapped hm, andThen_next, writeR8_mem, ht, andThen_next, r8Cost_mem]⟩

theorem add_one_eq_ofNat (v : Byte) : v + 1 = BitVec.ofNat 8 (v.toNat + 1) := by bv_omega

theorem sub_one_eq_ofNat (v : Byte) : v - 1 = BitVec.ofNat 8 (v.toNat + 255) := by bv_omega

/-- R349 over the number of the byte. -/
theorem putFlags_incFlags (s : State) (v : Byte) (c : Bool) : s.putFlags (incFlags v c) =
    s.setFlags (decide (v.toNat = 255)) false (decide (v.toNat % 16 = 15)) c := by
  have zero : v + 1 = 0 ↔ v.toNat = 255 := by bv_omega
  simp only [State.putFlags, incFlags, zero]

/-- R350 over the number of the byte. -/
theorem putFlags_decFlags (s : State) (v : Byte) (c : Bool) : s.putFlags (decFlags v c) =
    s.setFlags (decide (v.toNat = 1)) true (decide (v.toNat % 16 = 0)) c := by
  have one : v = 1 ↔ v.toNat = 1 := BitVec.toNat_inj.symm
  simp only [State.putFlags, decFlags, one]

theorem incR8_eq (r : R8) (s : State) : incR8 r s = andThen (readR8 r s) fun v =>
    andThen (writeR8 r (BitVec.ofNat 8 (v.toNat + 1)) s) fun t => .next
      ((t.setFlags (decide (v.toNat = 255)) false (decide (v.toNat % 16 = 15)) s.cf).setCost (r8Cost r 4 12)) := by
  simp only [incR8, putFlags_incFlags, add_one_eq_ofNat]

theorem decR8_eq (r : R8) (s : State) : decR8 r s = andThen (readR8 r s) fun v =>
    andThen (writeR8 r (BitVec.ofNat 8 (v.toNat + 255)) s) fun t => .next
      ((t.setFlags (decide (v.toNat = 1)) true (decide (v.toNat % 16 = 0)) s.cf).setCost (r8Cost r 4 12)) := by
  simp only [decR8, putFlags_decFlags, sub_one_eq_ofNat]

/-- Settles O20: both are read-modify-writes, of a register or of the byte at HL. -/
theorem incrementDecrement : Obligations.IncrementDecrement :=
  fun _ s r =>
    ⟨fun hf => exec_of_readModifyWrite ((exec_of_form hf s).trans (incR8_eq r s)),
      fun hf => exec_of_readModifyWrite ((exec_of_form hf s).trans (decR8_eq r s))⟩

/-! ### Adjustments of A -/

/-- R354 after an addition: the corrections at the high and at the low digit are told from A as it was, since adding
0x60 keeps the low nibble. -/
theorem daaResult_addition {a : Byte} {h c high low : Bool} (hhigh : (c || decide (a.toNat > 0x99)) = high)
    (hlow : (h || decide (a.toNat % 16 > 9)) = low) : daaResult a false h c =
      (BitVec.ofNat 8 (a.toNat + (if high then 0x60 else 0) + (if low then 0x06 else 0)), high) := by
  have nibble : (if high then a + 0x60 else a).toNat % 16 = a.toNat % 16 := by
    split
    · bv_omega
    · rfl
  simp only [daaResult, hhigh, nibble, hlow, Bool.false_eq_true, if_false]
  congr 1
  cases high <;> cases low <;> simp only [Bool.false_eq_true, if_false, if_true] <;> bv_omega

/-- R354 after a subtraction. -/
theorem daaResult_subtraction (a : Byte) (h c : Bool) : daaResult a true h c =
    (BitVec.ofNat 8 (256 + a.toNat - (if c then 0x60 else 0) - (if h then 0x06 else 0)), c) := by
  cases h <;> cases c <;> simp only [daaResult, Bool.false_eq_true, if_false, if_true] <;>
    congr 1 <;> bv_omega

theorem decimalAdjust_of_result {s : State} {n c : Bool} {m : Nat} (hn : s.nf = n)
    (h : daaResult s.cpu.a n s.hf s.cf = (BitVec.ofNat 8 m, c)) : decimalAdjust s =
      .next (((s.setReg .a (BitVec.ofNat 8 m)).setFlags (decide (m % 256 = 0)) n false c).setCost 4) := by
  simp only [decimalAdjust, hn, h, ofNat8_eq_zero_iff]

/-- Settles O21: CPL's complement is a difference from 255, and DAA is `daaResult` by NF. -/
theorem accumulatorAdjust : Obligations.AccumulatorAdjust := by
  intro i s
  refine ⟨fun hf => ?_, fun hf => exec_of_form hf s, fun hf => exec_of_form hf s, fun hf hn => ?_, fun hf hn => ?_⟩ <;>
    rw [exec_of_form hf]
  · rw [formMeaning, complementA, ← BitVec.allOnes_sub_eq_not]
    rfl
  · exact decimalAdjust_of_result hn (daaResult_addition rfl rfl)
  · exact decimalAdjust_of_result hn (daaResult_subtraction ..)

/-! ### Decimal sums and differences -/

/-- The byte that holds a number below 100 as two decimal digits. -/
def decimalByte (n : Nat) : Byte := BitVec.ofNat 8 (n / 10 * 16 + n % 10)

theorem toNat_decimalByte {n : Nat} (h : n < 100) : (decimalByte n).toNat = n / 10 * 16 + n % 10 := by
  rw [decimalByte, BitVec.toNat_ofNat]
  omega

/-- The byte and the carry that DAA gives on the result and the flags of an operation. -/
def daaAfter (op : AluOp) (a v : Byte) (c : Bool) : Byte × Bool :=
  daaResult (aluResult op a v c) (aluSubtract op) (aluHalf op a v c) (aluCarry op a v c)

/-- DAA reads what an operation with B has just written. -/
theorem aluB_then_daa {i : Instr} {op : AluOp} (hi : i.form = .alu op .b) (hop : op ≠ .cp) (s : State) :
    ∃ t u, exec i s = .next t ∧ exec .DAA t = .next u ∧
      u.cpu.a = (daaAfter op s.cpu.a s.cpu.b s.cf).1 ∧ u.cf = (daaAfter op s.cpu.a s.cpu.b s.cf).2 := by
  rw [daaAfter, ← a_aluOn hop s s.cpu.b 4, ← nf_aluOn op s s.cpu.b 4, ← hf_aluOn op s s.cpu.b 4,
    ← cf_aluOn op s s.cpu.b 4]
  exact ⟨aluOn op s.cpu.b 4 s, _, exec_of_form hi s, rfl, rfl, cf_setFlags ..⟩

/-- The sum of the bytes exceeds 0x99 where the decimal sum has a carry, and its low nibble exceeds 9 or has run over
where the units have one. -/
theorem daaAfter_add_decimal {x y : Nat} (hx : x < 100) (hy : y < 100) (c : Bool) :
    daaAfter .add (decimalByte x) (decimalByte y) c = (decimalByte ((x + y) % 100), decide (100 ≤ x + y)) := by
  have sum : (aluResult .add (decimalByte x) (decimalByte y) c).toNat =
      (x / 10 * 16 + x % 10 + (y / 10 * 16 + y % 10)) % 256 := by
    rw [aluResult_add, BitVec.toNat_ofNat, toNat_decimalByte hx, toNat_decimalByte hy]
  have carry : 100 ≤ x + y ↔ 0x99 < x / 10 * 16 + x % 10 + (y / 10 * 16 + y % 10) := by
    have tens : 100 ≤ x + y ∨ x / 10 + y / 10 ≤ 9 := by omega
    omega
  rw [daaAfter, aluSubtract,
    daaResult_addition (high := decide (100 ≤ x + y)) (low := decide (10 ≤ x % 10 + y % 10))]
  · rw [sum, decimalByte]
    congr 1
    apply BitVec.eq_of_toNat_eq
    simp only [BitVec.toNat_ofNat, decide_eq_true_eq]
    split <;> split <;> omega
  · rw [sum, aluCarry, toNat_decimalByte hx, toNat_decimalByte hy, ← Bool.decide_or, decide_eq_decide]
    omega
  · rw [sum, aluHalf, toNat_decimalByte hx, toNat_decimalByte hy, ← Bool.decide_or, decide_eq_decide]
    omega

/-- The borrows of the bytes and of their low nibbles are those of the numbers and of their units. -/
theorem daaAfter_sub_decimal {x y : Nat} (hx : x < 100) (hy : y < 100) (c : Bool) :
    daaAfter .sub (decimalByte x) (decimalByte y) c = (decimalByte ((100 + x - y) % 100), decide (x < y)) := by
  have difference : (aluResult .sub (decimalByte x) (decimalByte y) c).toNat =
      (256 + (x / 10 * 16 + x % 10) - (y / 10 * 16 + y % 10)) % 256 := by
    rw [aluResult_sub, BitVec.toNat_ofNat, toNat_decimalByte hx, toNat_decimalByte hy]
  have borrow : aluCarry .sub (decimalByte x) (decimalByte y) c = decide (x < y) := by
    rw [aluCarry, toNat_decimalByte hx, toNat_decimalByte hy, decide_eq_decide]
    omega
  have half : aluHalf .sub (decimalByte x) (decimalByte y) c = decide (x % 10 < y % 10) := by
    rw [aluHalf, toNat_decimalByte hx, toNat_decimalByte hy, decide_eq_decide]
    omega
  rw [daaAfter, aluSubtract, borrow, half, daaResult_subtraction, difference, decimalByte]
  congr 1
  apply BitVec.eq_of_toNat_eq
  simp only [BitVec.toNat_ofNat, decide_eq_true_eq]
  split <;> split <;> omega

/-- Settles O22: DAA's result on the flags and the sum or difference of two decimal bytes. -/
theorem decimalSums : Obligations.DecimalSums := by
  intro s x y hx hy ha hb
  rw [← decimalByte] at ha hb
  have add := aluB_then_daa (i := .ADD_A_B) rfl nofun s
  have sub := aluB_then_daa (i := .SUB_B) rfl nofun s
  rw [ha, hb, daaAfter_add_decimal hx hy] at add
  rw [ha, hb, daaAfter_sub_decimal hx hy] at sub
  exact ⟨add, sub⟩

end Sys2Proof.Machine


/-! PROOFS of the statement about the 16-bit arithmetic (spec/43_alu16.md). -/

namespace Sys2Proof.Machine

/-- R372 over the numbers of HL and the pair: the word sum is the exact sum modulo 2^16, and the carries are out of its
bits 11 and 15. -/
theorem addHl_eq (r : R16) (s : State) : addHl r s =
    .next (((s.setR16 .hl (BitVec.ofNat 16 (s.hl.toNat + (s.r16 r).toNat))).setFlags s.zf false
      (decide (s.hl.toNat % 4096 + (s.r16 r).toNat % 4096 > 4095))
      (decide (s.hl.toNat + (s.r16 r).toNat > 65535))).setCost 8) := by
  rw [addHl, BitVec.add_def, addHlFlags, State.putFlags]

/-- Settles O23: INC and DEC are their operations as defined, ADD HL is `addHl_eq`, and ADD SP is the last clause of
`loadWord`, whose flag law it shares (R373, R326). -/
theorem wordArithmetic : Obligations.WordArithmetic := by
  intro i s
  obtain ⟨-, -, -, addSp_clause⟩ := loadWord i s
  exact ⟨fun r hf => exec_of_form hf s, fun r hf => exec_of_form hf s,
    fun r hf => (exec_of_form hf s).trans (addHl_eq r s), addSp_clause⟩

end Sys2Proof.Machine

/-! PROOFS of the statements about the rotates, shifts and bit operations (spec/44_bits.md). -/

namespace Sys2Proof.Machine

/-! ### The shifted byte and the bit moved out -/

theorem bitAt_eq_ofNat (b : Bool) (n : Nat) : bitAt b n = BitVec.ofNat 8 (2 ^ n * b.toNat) := by
  cases b <;> simp [bitAt]

theorem shiftLeft_one_eq_ofNat (v : Byte) : v <<< 1 = BitVec.ofNat 8 (2 * v.toNat) := by bv_omega

theorem ushiftRight_one_eq_ofNat (v : Byte) : v >>> 1 = BitVec.ofNat 8 (v.toNat / 2) := by bv_omega

/-- Bit 7 alone, moved round to bit 0. -/
theorem ushiftRight_seven_eq_bitAt (v : Byte) : v >>> 7 = bitAt (v.getLsbD 7) 0 := by
  rw [bitAt_eq_ofNat, ← BitVec.testBit_toNat, Nat.toNat_testBit]
  bv_omega

/-- Bit 0 alone, moved round to bit 7. -/
theorem shiftLeft_seven_eq_bitAt (v : Byte) : v <<< 7 = bitAt (v.getLsbD 0) 7 := by
  rw [bitAt_eq_ofNat, ← BitVec.testBit_toNat, Nat.toNat_testBit]
  bv_omega

/-- An arithmetic shift right by one is the logical one with the sign bit put back (R390). -/
theorem sshiftRight_one_eq_or (v : Byte) : v.sshiftRight 1 = (v >>> 1) ||| (v &&& 0x80) := by
  have sign : (0x80 : Byte) = .twoPow 8 7 := rfl
  ext i hi
  rw [BitVec.getElem_sshiftRight, sign, BitVec.getElem_or, BitVec.getElem_and, BitVec.getElem_twoPow]
  by_cases h : 1 + i < 8
  · simp [h, show i ≠ 7 by omega]
  · obtain rfl : i = 7 := by omega
    simp [BitVec.msb_eq_getLsbD_last]

/-- The model's result of a shift is the whole byte's rotation, product or quotient; the bit that comes in from carry
meets none of the shifted byte, so there the union is a sum. -/
theorem shiftResult_eq_shiftedByte (op : ShiftOp) (v : Byte) (c : Bool) : shiftResult op v c = shiftedByte op v c := by
  cases op <;> simp only [shiftResult, shiftedByte]
  case rlc => rw [BitVec.rotateLeft_def, ← ushiftRight_seven_eq_bitAt]
  case rrc => rw [BitVec.rotateRight_def, ← shiftLeft_seven_eq_bitAt]
  case rl =>
    have disjoint := Nat.two_pow_add_eq_or_of_lt (i := 1) c.toNat_lt v.toNat
    rw [pow_one] at disjoint
    rw [shiftLeft_one_eq_ofNat, bitAt_eq_ofNat, ← BitVec.ofNat_or, pow_zero, one_mul, disjoint]
  case rr =>
    have disjoint := Nat.two_pow_add_eq_or_of_lt (i := 7) (b := v.toNat / 2) (by omega) c.toNat
    rw [ushiftRight_one_eq_ofNat, bitAt_eq_ofNat, ← BitVec.ofNat_or, Nat.or_comm, ← disjoint, Nat.add_comm]
  case sla => exact shiftLeft_one_eq_ofNat v
  case sra => exact (sshiftRight_one_eq_or v).symm
  case swap => rw [BitVec.rotateLeft_def]
  case srl => exact ushiftRight_one_eq_ofNat v

theorem shiftCarry_eq_shiftedOut (op : ShiftOp) (v : Byte) : shiftCarry op v = shiftedOut op v := by
  cases op
  case rlc | rl | sla => exact getLsbD_seven_eq_ge v
  case rrc | rr | sra | srl => exact getLsbD_zero_eq_odd v
  case swap => rfl

/-! ### Rotations of A -/

/-- The rotations of A are four of the eight shifts (R380 to R383). -/
theorem rotation_of_form {i : Instr} {op : ShiftOp} (h : i.form = .rotA op) :
    op = .rlc ∨ op = .rrc ∨ op = .rl ∨ op = .rr := by
  cases i <;> cases h
  case RLCA => exact .inl rfl
  case RRCA => exact .inr (.inl rfl)
  case RLA => exact .inr (.inr (.inl rfl))
  case RRA => exact .inr (.inr (.inr rfl))

/-- Settles O24: the rotated byte and the outgoing bit are those of the whole byte, and no other form rotates A. -/
theorem rotateAccumulator : Obligations.RotateAccumulator := by
  intro i s op hf
  refine ⟨?_, rotation_of_form hf⟩
  rw [exec_of_form hf, formMeaning, rotateA, shiftResult_eq_shiftedByte, rotateFlags, shiftCarry_eq_shiftedOut,
    State.putFlags]

/-! ### Shifts of an operand -/

theorem shiftR8_eq (op : ShiftOp) (r : R8) (s : State) : shiftR8 op r s = andThen (readR8 r s) fun v =>
    andThen (writeR8 r (shiftedByte op v s.cf) s) fun t => .next
      ((t.setFlags (decide (shiftedByte op v s.cf = 0)) false false (shiftedOut op v)).setCost (r8Cost r 8 16)) := by
  simp only [shiftR8, shiftFlags, State.putFlags, shiftResult_eq_shiftedByte, shiftCarry_eq_shiftedOut]

/-- Settles O25: a shift is a read-modify-write of its operand. -/
theorem shiftAndRotate : Obligations.ShiftAndRotate :=
  fun _ s op r hf => exec_of_readModifyWrite ((exec_of_form hf s).trans (shiftR8_eq op r s))

/-! ### Single bits -/

/-- Settles O26: BIT reads its operand and writes only the flags. -/
theorem testBit : Obligations.TestBit := by
  intro i s n r hf
  refine ⟨fun p hr => ?_, fun hr hm => ?_⟩ <;> rw [exec_of_form hf, formMeaning, bitBit]
  · rw [readR8_reg hr, andThen_next, r8Cost_reg hr, State.putFlags, bitFlags]
  · obtain rfl := R8_reg_eq_none.1 hr
    rw [readR8_mem, memRead_mapped hm, andThen_next, r8Cost_mem, State.putFlags, bitFlags]

theorem ofNat_two_pow_eq_shiftLeft (n : Nat) : BitVec.ofNat 8 (2 ^ n) = 1#8 <<< n := by
  apply BitVec.eq_of_toNat_eq
  simp [Nat.shiftLeft_eq]

theorem resBit_eq (n : BitVec 3) (r : R8) (s : State) : resBit n r s = andThen (readR8 r s) fun v =>
    andThen (writeR8 r (v &&& ~~~(1#8 <<< n.toNat)) s) fun t => .next (t.setCost (r8Cost r 8 16)) := by
  simp only [resBit, clearBitOf, ofNat_two_pow_eq_shiftLeft]

theorem setBit_eq (n : BitVec 3) (r : R8) (s : State) : setBit n r s = andThen (readR8 r s) fun v =>
    andThen (writeR8 r (v ||| (1#8 <<< n.toNat)) s) fun t => .next (t.setCost (r8Cost r 8 16)) := by
  simp only [setBit, setBitOf, ofNat_two_pow_eq_shiftLeft]

/-- Settles O27: both are read-modify-writes that touch no flag. -/
theorem resetAndSetBit : Obligations.ResetAndSetBit :=
  fun _ s n r =>
    ⟨fun hf => exec_of_readModifyWrite (f := fun _ t => t) ((exec_of_form hf s).trans (resBit_eq n r s)),
      fun hf => exec_of_readModifyWrite (f := fun _ t => t) ((exec_of_form hf s).trans (setBit_eq n r s))⟩

end Sys2Proof.Machine

/-! PROOFS of the statements about the control transfers (spec/45_control.md): jumps, calls and returns. -/

namespace Sys2Proof.Machine

/-! ### The condition of a transfer -/

theorem condHolds_iff (cc : Cond) (s : State) : condHolds cc s = true ↔ Taken cc s := by
  cases cc
  case nz | nc => exact Iff.of_eq (Bool.not_eq_true' _)
  case z | c => exact Iff.rfl

/-- A conditional transfer is one of its two outcomes, by `Taken`. -/
theorem exec_of_condition {i : Instr} {s : State} {cc : Cond} {taken notTaken : Out State}
    (h : exec i s = if condHolds cc s then taken else notTaken) :
    (Taken cc s → exec i s = taken) ∧ (¬ Taken cc s → exec i s = notTaken) :=
  ⟨fun ht => h.trans (if_pos ((condHolds_iff cc s).2 ht)),
    fun ht => h.trans (if_neg (mt (condHolds_iff cc s).1 ht))⟩

/-! ### Jumps -/

/-- Settles O29: a jump is its operation as defined, a conditional one by its condition. -/
theorem jumps : Obligations.Jumps :=
  fun _ s =>
    ⟨fun _ hf => exec_of_form hf s,
      fun _ _ hf => exec_of_condition (exec_of_form hf s),
      fun hf => exec_of_form hf s,
      fun _ hf => exec_of_form hf s,
      fun _ _ hf => exec_of_condition (exec_of_form hf s)⟩

/-! ### Calls -/

/-- A call that neither stack address stops: its two writes of the return address, then the transfer. -/
theorem callTo_completes {s : State} (a : Word) (n : Nat) (hm : Mapped s) (hp : PushOk s.cpu.sp) :
    ∃ t u, memWrite (s.setSp (s.cpu.sp - 1)) (s.cpu.sp - 1) (hiByte s.cpu.pc) = .next t ∧
      memWrite (t.setSp (s.cpu.sp - 2)) (s.cpu.sp - 2) (loByte s.cpu.pc) = .next u ∧
      u.cpu.sp = s.cpu.sp - 2 ∧ callTo a n s = .next ((u.setPc a).setCost n) := by
  obtain ⟨t, u, ht, hu, frame, hpush⟩ := push16_completes s.cpu.pc hm hp
  exact ⟨t, u, ht, hu, frame.sp, by rw [callTo, hpush, andThen_next]⟩

/-- Settles O30: CALL, a taken CALL cc and RST are the same push and transfer. -/
theorem calls : Obligations.Calls := by
  refine ⟨fun i s a n hi hm hp => ?_, fun i s cc a hf => (exec_of_condition (exec_of_form hf s)).2⟩
  have isCall : exec i s = callTo a n s := by
    obtain ⟨hf, rfl⟩ | ⟨cc, hf, ht, rfl⟩ | ⟨k, hf, rfl, rfl⟩ := hi
    · exact exec_of_form hf s
    · exact (exec_of_condition (exec_of_form hf s)).1 ht
    · exact exec_of_form hf s
  rw [isCall]
  exact callTo_completes a n hm hp

/-! ### Returns -/

theorem returnTo_mapped {s : State} (hm : Mapped s) (n : Nat) : returnTo n s =
    .next (((s.setSp (s.cpu.sp + 2)).setPc
      (pairOf (readByte s (s.cpu.sp + 1)) (readByte s s.cpu.sp))).setCost n) := by
  rw [returnTo, pop16_mapped hm, andThen_next]

theorem returnEnable_mapped {s : State} (hm : Mapped s) : returnEnable s =
    .next ((((s.setSp (s.cpu.sp + 2)).setPc
      (pairOf (readByte s (s.cpu.sp + 1)) (readByte s s.cpu.sp))).setIme true).setCost 16) := by
  rw [returnEnable, returnFromInterrupt, pop16_mapped hm, andThen_next, andThen_next]

/-- Settles O31: on a mapped cartridge the pop goes on, and RETI sets IME after it. -/
theorem returns : Obligations.Returns := by
  intro i s hm
  refine ⟨fun hf => (exec_of_form hf s).trans (returnTo_mapped hm 16), fun cc hf => ?_,
    fun hf => (exec_of_form hf s).trans (returnEnable_mapped hm)⟩
  rw [← returnTo_mapped hm]
  exact exec_of_condition (exec_of_form hf s)

end Sys2Proof.Machine

/-! PROOFS of the statements about the CB prefix and the control of the CPU (spec/46_system.md). -/

namespace Sys2Proof.Machine

/-! ### Operands complete -/

theorem readR8_completes {s : State} (hm : Mapped s) (r : R8) : ∃ v, readR8 r s = .next v := by
  cases hr : r.reg
  case none =>
    obtain rfl := R8_reg_eq_none.1 hr
    exact ⟨_, memRead_mapped hm s.hl⟩
  case some p => exact ⟨_, readR8_reg hr s⟩

theorem writeR8_completes {s : State} (hm : Mapped s) (ha : ¬ Unimplemented s.hl) (r : R8) (v : Byte) :
    ∃ t, writeR8 r v s = .next t := by
  cases hr : r.reg
  case none =>
    obtain rfl := R8_reg_eq_none.1 hr
    exact memWrite_completes hm ha v
  case some p => exact ⟨_, writeR8_reg hr v s⟩

theorem readThenWrite_completes {s : State} (hm : Mapped s) (ha : ¬ Unimplemented s.hl) (r : R8) (g : Byte → Byte)
    (k : Byte → State → State) :
    ∃ t, (andThen (readR8 r s) fun v => andThen (writeR8 r (g v) s) fun u => .next (k v u)) = .next t := by
  obtain ⟨v, hv⟩ := readR8_completes hm r
  obtain ⟨u, hu⟩ := writeR8_completes hm ha r (g v)
  exact ⟨k v u, by rw [hv, andThen_next, hu, andThen_next]⟩

/-! ### The CB prefix -/

theorem getD_eq_r8OfCode (z : BitVec 3) :
    [R8.b, .c, .d, .e, .h, .l, .hlMem, .a].getD z.toNat .b = r8OfCode z := by
  revert z
  decide

theorem getD_eq_shiftOfCode (y : BitVec 3) :
    [ShiftOp.rlc, .rrc, .rl, .rr, .sla, .sra, .swap, .srl].getD y.toNat .rlc = shiftOfCode y := by
  revert y
  decide

/-- The prefix's meaning and the form of the CB row read the same fields of the byte. -/
theorem prefixCb_eq_formMeaning (c : Byte) (s : State) : prefixCb c s = formMeaning (cbFields c) s := by
  simp only [prefixCb, cbFields, field, getD_eq_r8OfCode, getD_eq_shiftOfCode]
  generalize (c.extractLsb' 6 2).toNat = x
  match x with
  | 0 | 1 | 2 | _ + 3 => rfl

theorem exec_cbInstr (c : Byte) (s : State) : exec (cbInstr c) s = prefixCb c s := by
  rw [exec_of_form (form_cbInstr c), prefixCb_eq_formMeaning]

/-- BIT only reads its operand; the other three classes read it and write it back. -/
theorem prefixCb_completes {s : State} (c : Byte) (hm : Mapped s) (ha : ¬ Unimplemented s.hl) :
    ∃ t, prefixCb c s = .next t := by
  unfold prefixCb
  split
  case h_2 =>
    obtain ⟨v, hv⟩ := readR8_completes hm (r8OfCode (c.extractLsb' 0 3))
    exact ⟨_, by rw [bitBit, hv, andThen_next]⟩
  all_goals exact readThenWrite_completes hm ha _ _ _

/-- Settles O28: both are `prefixCb`, which completes on its operand. -/
theorem cbPrefixIsItsCbRow : Obligations.CbPrefixIsItsCbRow := by
  intro i c s hf
  have same : exec i s = exec (cbInstr c) s := (exec_of_form hf s).trans (exec_cbInstr c s).symm
  refine ⟨same, fun hm ha => ?_⟩
  obtain ⟨t, ht⟩ := prefixCb_completes c hm ha
  have row : exec (cbInstr c) s = .next t := (exec_cbInstr c s).trans ht
  exact ⟨t, row, same.trans row⟩

/-! ### Control of the CPU -/

/-- Settles O32: each is its operation as defined. -/
theorem controlInstructions : Obligations.ControlInstructions :=
  fun _ s =>
    ⟨fun hf => exec_of_form hf s,
      fun hf => exec_of_form hf s,
      fun hf => exec_of_form hf s,
      fun hf => exec_of_form hf s⟩

end Sys2Proof.Machine

/-! PROOFS of the statements about the phases of a step, the interrupt check, the keypad and the serial port
(spec/60_exceptions.md). -/

namespace Sys2Proof.Machine

/-! ### The halted step and the halt exit -/

/-- A halted machine that runs spends the 4 ticks of phase a, then runs the device phases. -/
theorem step_of_halted {s : State} (running : s.fault = none) (configured : configError s = none)
    (halted : s.cpu.halted = true) :
    step s = devicePhases s.cpu.doubleSpeed ({ s with extra := 0 }.setCost 4) := by
  simp only [step, machineStep, running, configured, executePhase, halted, if_true, andThen_next]

/-- Settles O9: `stepTicks` of the state phase a leaves is 4 plus the stall. -/
theorem haltedStepWaits : Obligations.HaltedStepWaits :=
  fun _ running configured halted => (step_of_halted running configured halted).trans (devicePhases_eq _ _)

/-- Settles O55: both outcomes of the exit give a value of `halted`, and the two values agree as Booleans. -/
theorem haltExit_eq : Obligations.HaltExit := by
  intro s
  have outcome : haltExit s =
      s.setHalted (if s.cpu.halted && (!s.cpu.ime || s.requested != 0) then false else s.cpu.halted) := by
    unfold haltExit
    split <;> rfl
  rw [outcome, State.requested, State.setHalted]
  cases s.cpu.halted <;> cases s.cpu.ime <;> simp

/-! ### The interrupt check -/

theorem getLsbD_requested (s : State) {k : Nat} (hk : k < 5) :
    s.requested.getLsbD k = (s.irq.ifByte.getLsbD k && s.irq.ieByte.getLsbD k) := by
  have mask : (0x1F : Byte).getLsbD k = true := by interval_cases k <;> rfl
  rw [State.requested, BitVec.getLsbD_and, BitVec.getLsbD_and, mask, Bool.and_true]

theorem lowestRequest_eq_some_iff {req : Byte} {n : Nat} :
    lowestRequest req = some n ↔ req.getLsbD n = true ∧ n < 5 ∧ ∀ k < n, req.getLsbD k = false := by
  have range : [0, 1, 2, 3, 4] = List.range 5 := rfl
  rw [lowestRequest, range, List.find?_range_eq_some]
  simp

/-- Taking an interrupt on a stack that neither address stops: the push from the state with IME and the request
cleared, and PC at the vector. -/
theorem takeInterrupt_completes {s : State} (n : Nat) (hm : Mapped s) (hp : PushOk s.cpu.sp) :
    let s0 := { s.setIme false with irq := { s.irq with ifByte := clearBitOf s.irq.ifByte n } }
    ∃ t u, memWrite (s0.setSp (s.cpu.sp - 1)) (s.cpu.sp - 1) (hiByte s.cpu.pc) = .next t ∧
      memWrite (t.setSp (s.cpu.sp - 2)) (s.cpu.sp - 2) (loByte s.cpu.pc) = .next u ∧
      WriteFrame (s0.setSp (s.cpu.sp - 2)) u ∧ takeInterrupt n s = .next (u.setPc (interruptVector n)) := by
  intro s0
  obtain ⟨t, u, ht, hu, frame, hpush⟩ := push16_completes (s := s0) s.cpu.pc hm hp
  have pushed : push16 s0.cpu.pc s0 = .next u := hpush
  exact ⟨t, u, ht, hu, frame, by rw [takeInterrupt, pushed, andThen_next]⟩

/-- Settles O54: the request found is the lowest, its push completes, and the push leaves the other registers and
the speed. -/
theorem dispatchTakesLowest : Obligations.DispatchTakesLowest := by
  refine ⟨fun s n ime hn hif hie low hm hp => ?_, fun s idle => ?_⟩
  · have lowest : lowestRequest s.requested = some n := by
      refine lowestRequest_eq_some_iff.2 ⟨by rw [getLsbD_requested s hn, hif, hie]; rfl, hn, fun k hk => ?_⟩
      rw [getLsbD_requested s (hk.trans hn), ← Bool.not_eq_true, Bool.and_eq_true]
      exact low k hk
    obtain ⟨t, u, ht, hu, frame, taken⟩ := takeInterrupt_completes n hm hp
    refine ⟨t, u, ht, hu, frame.sp, by rw [frame.cpu]; rfl, frame.reg, by rw [frame.cpu]; rfl, ?_⟩
    have speed : (u.setPc (interruptVector n)).cpu.doubleSpeed = s.cpu.doubleSpeed := by
      rw [State.setPc, frame.cpu]
      rfl
    rw [dispatch, if_pos ime, lowest]
    dsimp only
    rw [taken, andThen_next, speed, interruptVector]
  · unfold dispatch
    rcases idle with off | quiet
    · rw [off]; rfl
    · rw [State.requested, quiet]
      exact ite_self _

/-! ### The deferred effects -/

theorem imeAfter_append (q r : List Deferred) (ime : Bool) : imeAfter (q ++ r) ime = imeAfter r (imeAfter q ime) :=
  List.foldl_append

/-- Entries that wait at least one more step leave IME alone. -/
theorem imeAfter_countDown_waiting {q : List Deferred} (h : ∀ d ∈ q, 1 < d.remaining) (ime : Bool) :
    imeAfter (countDown q) ime = ime := by
  induction q with
  | nil => rfl
  | cons d q ih =>
    obtain ⟨hd, hq⟩ := List.forall_mem_cons.1 h
    have waits : d.remaining - 1 ≠ 0 := by omega
    have head : imeAfter (countDown (d :: q)) ime = imeAfter (countDown q) ime :=
      congrArg (imeAfter (countDown q)) (if_neg waits)
    rw [head, ih hq]

/-- A due entry with only waiting ones behind it decides IME. -/
theorem imeAfter_countDown_due (q : List Deferred) (e : Effect) {r : List Deferred}
    (h : ∀ d ∈ r, 1 < d.remaining) (ime : Bool) :
    imeAfter (countDown (q ++ { effect := e, remaining := 1 } :: r)) ime = decide (e = .setIME) := by
  have split : countDown (q ++ { effect := e, remaining := 1 } :: r) =
      countDown q ++ ({ effect := e, remaining := 0 } :: countDown r) := List.map_append
  rw [split, imeAfter_append]
  exact imeAfter_countDown_waiting h _

/-- A deferred effect behind at most one entry, which is due, waits through its step, then alone in the queue. -/
theorem applyPending_defer {s : State} (short : s.cpu.pending.length ≤ 1)
    (due : ∀ d ∈ s.cpu.pending, d.remaining = 1) (e : Effect) :
    (applyPending ((s.defer e).setCost 4)).cpu.ime = (applyPending s).cpu.ime ∧
    (applyPending ((s.defer e).setCost 4)).cpu.pending = [{ effect := e, remaining := 1 }] := by
  have queue : countDown ((s.defer e).setCost 4).cpu.pending =
      countDown s.cpu.pending ++ [{ effect := e, remaining := 1 }] := List.map_append
  constructor
  · exact (congrArg (imeAfter · _) queue).trans (imeAfter_append _ _ _)
  · exact (congrArg (List.filter _) queue).trans (by rw [List.filter_append, countDown_short short due]; rfl)

/-- A due entry alone in the queue decides IME and leaves the queue empty. -/
theorem applyPending_of_due {s : State} {e : Effect} (h : s.cpu.pending = [{ effect := e, remaining := 1 }]) :
    (applyPending s).cpu.ime = decide (e = .setIME) ∧ (applyPending s).cpu.pending = [] := by
  simp [applyPending, h, countDown, imeAfter]

/-- Settles O56: the general clauses are the laws of `imeAfter`; an EI or DI waits by `applyPending_defer`, a DI after
an EI that is due too, and acts by `applyPending_of_due`. -/
theorem deferredEnable : Obligations.DeferredEnable := by
  have unchanged {s : State} (h : ∀ d ∈ s.cpu.pending, 1 < d.remaining) : (applyPending s).cpu.ime = s.cpu.ime :=
    imeAfter_countDown_waiting h s.cpu.ime
  refine ⟨fun _ => rfl, fun s q r e hq hr => ?_, fun s => unchanged, fun s h => ?_, fun s h => ?_⟩
  · have ime : (applyPending s).cpu.ime = imeAfter (countDown s.cpu.pending) s.cpu.ime := rfl
    rw [ime, hq, imeAfter_countDown_due q e hr]
  · obtain ⟨waits, queue⟩ := applyPending_defer (s := s) (by simp [h]) (by simp [h]) .setIME
    obtain ⟨set, empty⟩ := applyPending_of_due queue
    obtain ⟨waits', queue'⟩ := applyPending_defer (by rw [queue]; rfl) (by rw [queue]; simp) .clearIME
    obtain ⟨cleared, empty'⟩ := applyPending_of_due queue'
    exact ⟨_, _, exec_of_form rfl s, waits.trans (unchanged (by simp [h])), set, empty, exec_of_form rfl _,
      waits'.trans set, cleared, empty'⟩
  · obtain ⟨waits, queue⟩ := applyPending_defer (s := s) (by simp [h]) (by simp [h]) .clearIME
    obtain ⟨cleared, empty⟩ := applyPending_of_due queue
    exact ⟨_, exec_of_form rfl s, waits.trans (unchanged (by simp [h])), cleared, empty⟩

/-! ### The keypad -/

/-- The key of a bit of `keys` (R530). -/
def keyOfBit : Nat → Key
  | 0 => .right
  | 1 => .left
  | 2 => .up
  | 3 => .down
  | 4 => .a
  | 5 => .b
  | 6 => .select
  | _ => .start

theorem keyOfBit_keyBit (k : Key) : keyOfBit (keyBit k) = k := by cases k <;> rfl

theorem keyBit_keyOfBit {n : Nat} (hn : n < 8) : keyBit (keyOfBit n) = n := by interval_cases n <;> rfl

theorem keyBit_lt (k : Key) : keyBit k < 8 := by cases k <;> decide

theorem keyBit_inj {j k : Key} : keyBit j = keyBit k ↔ j = k :=
  (Function.LeftInverse.injective keyOfBit_keyBit).eq_iff

theorem getLsbD_clearBitOf (v : Byte) {k n : Nat} (hn : n < 8) :
    (clearBitOf v k).getLsbD n = (v.getLsbD n && decide (n ≠ k)) := by
  have bit : (BitVec.ofNat 8 (2 ^ k)).getLsbD n = decide (n = k) := by
    rw [BitVec.getLsbD_ofNat, Nat.testBit_two_pow]
    simp [hn, eq_comm]
  rw [clearBitOf, BitVec.getLsbD_and, BitVec.getLsbD_not, bit]
  simp [hn]

theorem getLsbD_setBitOf_keyBit (v : Byte) (j k : Key) :
    (setBitOf v (keyBit j)).getLsbD (keyBit k) = (v.getLsbD (keyBit k) || decide (j = k)) := by
  rw [getLsbD_setBitOf v (keyBit_lt j), decide_eq_decide.2 (keyBit_inj.trans eq_comm)]

theorem getLsbD_clearBitOf_keyBit (v : Byte) (j k : Key) :
    (clearBitOf v (keyBit j)).getLsbD (keyBit k) = (v.getLsbD (keyBit k) && decide (j ≠ k)) := by
  rw [getLsbD_clearBitOf v (keyBit_lt k), decide_eq_decide.2 (not_congr (keyBit_inj.trans eq_comm))]

/-- The bits of a byte of keys are those of the eight keys. -/
theorem and_eq_zero_iff_keys (x y : Byte) :
    x &&& y = 0 ↔ ∀ k, y.getLsbD (keyBit k) = true → x.getLsbD (keyBit k) = false := by
  constructor
  · intro h k hy
    have bit : (x &&& y).getLsbD (keyBit k) = false := by rw [h]; exact BitVec.getLsbD_zero
    rwa [BitVec.getLsbD_and, hy, Bool.and_true] at bit
  · intro h
    apply BitVec.eq_of_getLsbD_eq
    intro n hn
    rw [← keyBit_keyOfBit hn, BitVec.getLsbD_and]
    cases hy : y.getLsbD (keyBit (keyOfBit n))
    case false => exact (Bool.and_false _).trans BitVec.getLsbD_zero.symm
    case true => rw [h _ hy]; exact BitVec.getLsbD_zero.symm

/-- What a line of P1 reads (R530). -/
theorem getLsbD_p1Read (p : Keypad) {n : Nat} (hn : n < 4) : (p1Read p).getLsbD n =
    !((!p.select.getLsbD 0 && p.keys.getLsbD n) || (!p.select.getLsbD 1 && p.keys.getLsbD (4 + n))) := by
  have fixed : ((0xC0 : Nat) : Byte).getLsbD n = false := by interval_cases n <;> rfl
  have lines : (0x0F : Byte).getLsbD n = true := by interval_cases n <;> rfl
  have selected (b : Bool) (v : Byte) : (if b then 0 else v).getLsbD n = (!b && v.getLsbD n) := by cases b <;> simp
  simp only [p1Read, BitVec.getLsbD_or, BitVec.getLsbD_and, BitVec.getLsbD_not, BitVec.getLsbD_shiftLeft,
    BitVec.getLsbD_ushiftRight, selected, fixed, lines]
  simp [hn, show n < 8 by omega]

/-- A key after some events: as its last event says, or as it was. -/
def keyAfter (events : List KeyEvent) (k : Key) (before : Bool) : Bool :=
  match (events.filter fun e => e.key = k).getLast? with
  | some e => e.pressed
  | none => before

theorem keyAfter_cons (e : KeyEvent) (es : List KeyEvent) (k : Key) (before : Bool) :
    keyAfter (e :: es) k before = keyAfter es k (if e.key = k then e.pressed else before) := by
  unfold keyAfter
  by_cases h : e.key = k
  · rw [if_pos h, List.filter_cons_of_pos (by simpa using h), List.getLast?_cons]
    cases (es.filter fun e => e.key = k).getLast? <;> rfl
  · rw [if_neg h, List.filter_cons_of_neg (by simpa using h)]

/-- A key was up before some events or is released by one of them. -/
def WasUp (events : List KeyEvent) (k : Key) (before : Bool) : Prop :=
  before = false ∨ ∃ e ∈ events, e.key = k ∧ e.pressed = false

theorem wasUp_cons (e : KeyEvent) (es : List KeyEvent) (k : Key) (before : Bool) :
    WasUp (e :: es) k before ↔ before = false ∨ WasUp es k (if e.key = k then e.pressed else before) := by
  unfold WasUp
  by_cases h : e.key = k <;> simp [h]

theorem not_wasUp_iff {events : List KeyEvent} {k : Key} {before : Bool} :
    ¬ WasUp events k before ↔ before = true ∧ ∀ e ∈ events, e.key = k → e.pressed = true := by
  simp [WasUp]

/-- An event leaves its key as it says, and the others alone. -/
theorem applyKeyEvent_keys (acc : Byte × Byte) (e : KeyEvent) (k : Key) :
    (applyKeyEvent acc e).1.getLsbD (keyBit k) = if e.key = k then e.pressed else acc.1.getLsbD (keyBit k) := by
  unfold applyKeyEvent
  cases e.pressed
  case false =>
    refine (getLsbD_clearBitOf_keyBit acc.1 e.key k).trans ?_
    by_cases h : e.key = k <;> simp [h]
  case true =>
    refine (getLsbD_setBitOf_keyBit acc.1 e.key k).trans ?_
    by_cases h : e.key = k <;> simp [h]

/-- An event adds its key to the pressed ones if it presses it from up. -/
theorem applyKeyEvent_pressed (acc : Byte × Byte) (e : KeyEvent) (k : Key) :
    (applyKeyEvent acc e).2.getLsbD (keyBit k) = (acc.2.getLsbD (keyBit k) ||
      (decide (e.key = k) && e.pressed && !acc.1.getLsbD (keyBit k))) := by
  unfold applyKeyEvent
  cases e.pressed
  case false => simp
  case true =>
    rw [if_pos rfl]
    dsimp only
    split <;> rename_i down
    · by_cases h : e.key = k
      · subst h
        simp [down]
      · simp [h]
    · rw [getLsbD_setBitOf_keyBit]
      by_cases h : e.key = k
      · subst h
        simp [down]
      · simp [h]

theorem foldl_applyKeyEvent_keys (events : List KeyEvent) (acc : Byte × Byte) (k : Key) :
    (events.foldl applyKeyEvent acc).1.getLsbD (keyBit k) = keyAfter events k (acc.1.getLsbD (keyBit k)) := by
  induction events generalizing acc with
  | nil => rfl
  | cons e es ih => rw [List.foldl_cons, ih, applyKeyEvent_keys, keyAfter_cons]

/-- A key down at the end was pressed by the events exactly if it was up at some time before. -/
theorem foldl_applyKeyEvent_pressed (events : List KeyEvent) (acc : Byte × Byte) (k : Key)
    (down : keyAfter events k (acc.1.getLsbD (keyBit k)) = true) :
    (events.foldl applyKeyEvent acc).2.getLsbD (keyBit k) = true ↔
      acc.2.getLsbD (keyBit k) = true ∨ WasUp events k (acc.1.getLsbD (keyBit k)) := by
  induction events generalizing acc with
  | nil =>
    have before : acc.1.getLsbD (keyBit k) = true := down
    simp [WasUp, before]
  | cons e es ih =>
    rw [keyAfter_cons, ← applyKeyEvent_keys] at down
    rw [List.foldl_cons, ih _ down, applyKeyEvent_keys, applyKeyEvent_pressed, wasUp_cons]
    by_cases h : e.key = k
    · cases e.pressed <;> simp [h, WasUp, or_assoc]
    · simp [h, WasUp]

/-- A drain requests nothing exactly if every key that is down at its end was down all along. -/
theorem drain_requests_nothing_iff (events : List KeyEvent) (keys : Byte) :
    let res := events.foldl applyKeyEvent (keys, 0)
    res.2 &&& res.1 = 0 ↔ ∀ k, keyAfter events k (keys.getLsbD (keyBit k)) = true →
      ¬ WasUp events k (keys.getLsbD (keyBit k)) := by
  intro res
  have pressed {k : Key} (down : keyAfter events k (keys.getLsbD (keyBit k)) = true) :
      res.2.getLsbD (keyBit k) = true ↔ WasUp events k (keys.getLsbD (keyBit k)) :=
    (foldl_applyKeyEvent_pressed events (keys, 0) k down).trans (by simp)
  rw [and_eq_zero_iff_keys]
  refine forall_congr' fun k => ?_
  rw [foldl_applyKeyEvent_keys, ← Bool.not_eq_true]
  exact imp_congr_right fun down => not_congr (pressed down)

/-! ### The serial port -/

/-- A transfer whose peer answers ends. -/
theorem serialTick_of_answer {s : State} {b : Byte} (busy : s.serial.busy = true) (h : peerAnswer s = some b) :
    serialTick s = endTransfer b
      { s with host := { s.host with peer := Source.rest s.host.peer, peerShown := shownToPeer s } } := by
  simp only [serialTick, busy, if_true, h]

/-- A transfer whose peer does not answer goes on. -/
theorem serialTick_of_no_answer {s : State} (busy : s.serial.busy = true) (h : peerAnswer s = none) :
    serialTick s =
      { s with host := { s.host with peer := Source.rest s.host.peer, peerShown := shownToPeer s } } := by
  simp only [serialTick, busy, if_true, h]

/-- Settles O46: P1 and SC are registers of the I/O page, a drain is its events key by key, and a serial tick goes by
the peer's answer. -/
theorem keypadAndSerial : Obligations.KeypadAndSerial := by
  refine ⟨fun s v => memWrite_register (r := .p1) v (by decide) (.inr rfl), fun s n hn => ?_, fun s => ?_,
    fun s v => ?_, fun s busy => ⟨fun b h => ?_, serialTick_of_no_answer busy⟩, fun s idle => ?_⟩
  · rw [readByte_register (r := .p1) (by decide) (.inr rfl)]
    exact getLsbD_p1Read s.keypad hn
  · intro events before after
    have quiet := drain_requests_nothing_iff events s.keypad.keys
    refine ⟨_, _, rfl, fun k => foldl_applyKeyEvent_keys events _ k, ?_, ?_⟩
    · rintro ⟨k, down, up⟩
      exact if_neg fun h => quiet.1 h k down up
    · intro held
      exact if_pos (quiet.2 fun k down => not_wasUp_iff.2 (held k down))
  · rw [memWrite_register (r := .sc) v (by decide) (.inr rfl), ioRegWrite, scWrite, getLsbD_seven_eq_ge]
  · exact serialTick_of_answer busy h
  · rw [serialTick, if_neg (by simp [idle])]

end Sys2Proof.Machine

/-! PROOFS of the statement about the timer (spec/61_timer.md). -/

namespace Sys2Proof.Machine

/-- A loop that takes `p` from a measure at each turn, with fuel for every turn, makes as many turns as `p` fits. -/
theorem loopWhile_eq_iterate {α : Type} {m : α → Nat} {p : Nat} {body : α → α} (hp : 0 < p)
    (hb : ∀ a, m (body a) = m a - p) (n : Nat) (a : α) (hn : m a / p = n) :
    loopWhile (fun x => decide (p ≤ m x)) body n a = body^[n] a := by
  induction n generalizing a with
  | zero => rfl
  | succ n ih =>
    have fits : p ≤ m a := (Nat.div_pos_iff.1 (by omega)).2
    rw [loopWhile, if_pos (by simpa using fits), Function.iterate_succ_apply]
    exact ih _ (by rw [hb]; rw [Nat.div_eq_sub_div hp fits] at hn; omega)

/-- TIMA after `n` increments, from `x` with the reload value `m` (R552, R553). -/
def timaAfter (m x n : Nat) : Nat := if x + n ≤ 255 then x + n else m + (x + n - 256) % (256 - m)

theorem timaAfter_of_le {m x n : Nat} (h : x + n ≤ 255) : timaAfter m x n = x + n := if_pos h

theorem timaAfter_of_gt {m x n : Nat} (h : 255 < x + n) : timaAfter m x n = m + (x + n - 256) % (256 - m) :=
  if_neg (by omega)

theorem timaAfter_lt {m : Nat} (hm : m < 256) (x n : Nat) : timaAfter m x n < 256 := by
  have := Nat.mod_lt (x + n - 256) (show 0 < 256 - m by omega)
  unfold timaAfter
  split <;> omega

/-- One more increment: a reload from 255, otherwise one higher. -/
theorem timaAfter_succ {m : Nat} (hm : m < 256) (x n : Nat) :
    timaAfter m x (n + 1) = if timaAfter m x n = 255 then m else timaAfter m x n + 1 := by
  rcases lt_trichotomy (x + n) 255 with h | h | h
  · rw [timaAfter_of_le (by omega), timaAfter_of_le (by omega), if_neg (by omega)]
    omega
  · have first : x + (n + 1) - 256 = 0 := by omega
    rw [timaAfter_of_gt (by omega), timaAfter_of_le (by omega), if_pos h, first, Nat.zero_mod, Nat.add_zero]
  · have next : x + (n + 1) - 256 = x + n - 256 + 1 := by omega
    have lt := Nat.mod_lt (x + n - 256) (show 0 < 256 - m by omega)
    rw [timaAfter_of_gt (by omega), timaAfter_of_gt (by omega), next, ← Nat.mod_add_mod]
    split <;> rename_i last
    · rw [show (x + n - 256) % (256 - m) + 1 = 256 - m by omega, Nat.mod_self, Nat.add_zero]
    · rw [Nat.mod_eq_of_lt (by omega), Nat.add_assoc]

/-- A state whose timer has turned `n` times: the accumulator `n` periods lower, `n` increments of TIMA, interrupt 2
requested once TIMA has overflowed. -/
def timerTurned (p n : Nat) (s : State) : State :=
  { s with
    timer := { s.timer with
      timaAcc := s.timer.timaAcc - n * p, tima := BitVec.ofNat 8 (timaAfter s.timer.tma.toNat s.timer.tima.toNat n) }
    irq := { s.irq with
      ifByte := if s.timer.tima.toNat + n ≤ 255 then s.irq.ifByte else setBitOf s.irq.ifByte 2 } }

theorem setBitOf_setBitOf (v : Byte) (n : Nat) : setBitOf (setBitOf v n) n = setBitOf v n := by
  rw [setBitOf, setBitOf, BitVec.or_assoc, BitVec.or_self]

theorem timerTurned_zero (p : Nat) (s : State) : timerTurned p 0 s = s := by
  have hx := s.timer.tima.isLt
  rw [timerTurned, timaAfter_of_le (by omega), if_pos (by omega), Nat.zero_mul]
  simp

/-- An increment of TIMA, by numbers (R552). -/
theorem timaIncrement_of_tima {s : State} {x : Nat} (hx : x < 256) (h : s.timer.tima = BitVec.ofNat 8 x) :
    timaIncrement s = { s with
      timer := { s.timer with tima := BitVec.ofNat 8 (if x = 255 then s.timer.tma.toNat else x + 1) }
      irq := { s.irq with ifByte := if x = 255 then setBitOf s.irq.ifByte 2 else s.irq.ifByte } } := by
  unfold timaIncrement
  by_cases top : x = 255
  · have full : s.timer.tima = 0xFF := by rw [h, top]; rfl
    rw [if_pos full, if_pos top, if_pos top, BitVec.ofNat_toNat, BitVec.setWidth_eq]
    rfl
  · have room : s.timer.tima ≠ 0xFF := by
      rw [h, ← BitVec.toNat_inj.ne, BitVec.toNat_ofNat, Nat.mod_eq_of_lt hx]
      exact top
    rw [if_neg room, if_neg top, if_neg top, h, BitVec.ofNat_add]
    rfl

/-- A turn after `n` of them is one more. -/
theorem timerTurn_timerTurned (p n : Nat) (s : State) : timerTurn p (timerTurned p n s) = timerTurned p (n + 1) s := by
  have hm := s.timer.tma.isLt
  have acc : s.timer.timaAcc - n * p - p = s.timer.timaAcc - (n + 1) * p := by
    rw [Nat.sub_sub, Nat.add_mul, Nat.one_mul]
  have request : (if timaAfter s.timer.tma.toNat s.timer.tima.toNat n = 255
        then setBitOf (if s.timer.tima.toNat + n ≤ 255 then s.irq.ifByte else setBitOf s.irq.ifByte 2) 2
        else (if s.timer.tima.toNat + n ≤ 255 then s.irq.ifByte else setBitOf s.irq.ifByte 2)) =
      if s.timer.tima.toNat + (n + 1) ≤ 255 then s.irq.ifByte else setBitOf s.irq.ifByte 2 := by
    by_cases h : s.timer.tima.toNat + n ≤ 255
    · rw [timaAfter_of_le h, if_pos h]
      split_ifs <;> first | rfl | omega
    · rw [if_neg h, setBitOf_setBitOf, ite_self, if_neg (by omega)]
  unfold timerTurn
  rw [timaIncrement_of_tima (timaAfter_lt hm s.timer.tima.toNat n) rfl]
  simp only [timerTurned, timaAfter_succ hm, acc, request]

theorem iterate_timerTurn (p n : Nat) (s : State) : (timerTurn p)^[n] s = timerTurned p n s := by
  induction n with
  | zero => exact (timerTurned_zero p s).symm
  | succ n ih => rw [Function.iterate_succ_apply', ih, timerTurn_timerTurned]

/-- With the timer on, an advance makes one turn for each period that fits. -/
theorem timerAdvance_of_on {s : State} (on : s.timer.tac.getLsbD 2 = true) (c : Nat) :
    timerAdvance c s = timerTurned (timerPeriod s.timer.tac) ((s.timer.timaAcc + c) / timerPeriod s.timer.tac) { s with
      timer := { s.timer with
        divCounter := s.timer.divCounter + BitVec.ofNat 16 c, timaAcc := s.timer.timaAcc + c } } := by
  rw [timerAdvance, if_pos on, ← iterate_timerTurn]
  exact loopWhile_eq_iterate (m := fun t : State => t.timer.timaAcc) (timerPeriod_pos _)
    (fun t => by obtain ⟨x, q, h⟩ := timerTurn_eq (timerPeriod s.timer.tac) t; rw [h]) _ _ rfl

/-- Settles O47: `timerTurned` is the closed form of the turns, without an overflow and with one. -/
theorem timerAdvanceClosedForm : Obligations.TimerAdvanceClosedForm := by
  intro s c p n x m div
  have rest : s.timer.timaAcc + c - n * p = (s.timer.timaAcc + c) % p := Nat.mod_eq_sub_div_mul.symm
  refine ⟨fun off => ?_, fun on room => ?_, fun on overflow => ?_⟩
  · rw [timerAdvance, if_neg (Bool.eq_false_iff.1 off)]
  · rw [timerAdvance_of_on on, timerTurned]
    dsimp only
    rw [rest, timaAfter_of_le room, if_pos room]
  · rw [timerAdvance_of_on on, timerTurned]
    dsimp only
    rw [rest, timaAfter_of_gt overflow, if_neg (Nat.not_le.2 overflow)]

end Sys2Proof.Machine

/-! PROOFS of the statements about the PPU (spec/62_ppu.md). -/

namespace Sys2Proof.Machine

/-! ### Position and frames -/

/-- The position in dots from the start of line 0 (R602). -/
def dotPosition (s : State) : Nat := s.ppu.ly * 456 + s.ppu.lineDot

/-- How often line 144 is entered in `d` dots from a position: the first entry is 65664 dots after line 0. -/
def vblankEntries (start d : Nat) : Nat := (start + d + 4560) / 70224 - (start + 4560) / 70224

/-- One dot from a position that exists, in the mode it stands for, with the LCD on: the next position in its mode, and
a frame and interrupt 0 exactly at an entry to line 144. -/
theorem ppuDot_advances {s t : State} (h : PpuInv s) (on : s.ppu.lcdOn = true) (hs : ppuDot s = .next t) :
    PpuInv t ∧ t.ppu.lcdOn = true ∧ dotPosition t = (dotPosition s + 1) % 70224 ∧
    framesSent t = framesSent s + vblankEntries (dotPosition s) 1 ∧
    (t.irq.ifByte.getLsbD 0 = true ↔ s.irq.ifByte.getLsbD 0 = true ∨ 0 < vblankEntries (dotPosition s) 1) := by
  have line := h.line
  have dot := h.dot
  obtain ⟨frame, inv, position, sent⟩ := ppuDot_position h on hs
  refine ⟨inv, frame.lcdOn.trans on, ?_, ?_⟩
  · simp only [nextPosition] at position
    unfold dotPosition
    split at position <;> rw [Prod.mk.injEq] at position <;> omega
  · have entries : vblankEntries (dotPosition s) 1 = if s.ppu.ly = 143 ∧ s.ppu.lineDot = 455 then 1 else 0 := by
      unfold vblankEntries dotPosition
      split <;> omega
    rw [entries]
    split at sent <;> rename_i entry <;> obtain ⟨frames, request⟩ := sent
    · rw [if_pos entry]
      exact ⟨frames, iff_of_true request (.inr Nat.one_pos)⟩
    · rw [if_neg entry, request]
      exact ⟨frames, (or_iff_left (lt_irrefl 0)).symm⟩

/-- `d` dots: the position `d` on modulo a frame, a frame for each entry to line 144, and interrupt 0 if there was
one. -/
theorem ppuDots_advance {d : Nat} {s t : State} (h : PpuInv s) (on : s.ppu.lcdOn = true) (hs : ppuDots d s = .next t) :
    PpuInv t ∧ t.ppu.lcdOn = true ∧ dotPosition t = (dotPosition s + d) % 70224 ∧
    framesSent t = framesSent s + vblankEntries (dotPosition s) d ∧
    (t.irq.ifByte.getLsbD 0 = true ↔ s.irq.ifByte.getLsbD 0 = true ∨ 0 < vblankEntries (dotPosition s) d) := by
  induction d generalizing s with
  | zero =>
    cases hs
    have line := h.line
    have dot := h.dot
    refine ⟨h, on, ?_, ?_, ?_⟩
    · unfold dotPosition; omega
    · simp [vblankEntries]
    · simp [vblankEntries]
  | succ d ih =>
    obtain ⟨u, hu, ht⟩ := andThen_eq_next.1 hs
    obtain ⟨inv, on', position, frames, request⟩ := ppuDot_advances h on hu
    obtain ⟨inv', on'', position', frames', request'⟩ := ih inv on' ht
    have entries : vblankEntries (dotPosition s) (d + 1) =
        vblankEntries (dotPosition s) 1 + vblankEntries (dotPosition u) d := by
      unfold vblankEntries
      omega
    refine ⟨inv', on'', by omega, by omega, ?_⟩
    rw [request', request, entries, or_assoc, Nat.add_pos_iff_pos_or_pos]

theorem ppuAdvance_of_on {s : State} (on : s.ppu.lcdOn = true) (d : Nat) : ppuAdvance d s = ppuDots d s := if_pos on

theorem ppuAdvance_of_off {s : State} (off : s.ppu.lcdOn = false) (d : Nat) : ppuAdvance d s = .next s :=
  if_neg (Bool.eq_false_iff.1 off)

/-- Settles O48: the dots complete, and move the position on one by one. -/
theorem ppuPosition : Obligations.PpuPosition := by
  refine ⟨fun s d mapped h on => ?_, fun s d off => ppuAdvance_of_off off d⟩
  obtain ⟨t, ht⟩ := ppuDots_completes (d := d) h on mapped
  obtain ⟨inv, on', position, -, -⟩ := ppuDots_advance h on ht
  exact ⟨t, (ppuAdvance_of_on on d).trans ht, position, inv.line, inv.dot, inv.modeOn on'⟩

/-- Settles O49: each dot hands over a frame and requests interrupt 0 exactly at an entry to line 144, and a whole frame
has one. -/
theorem vBlankOncePerFrame : Obligations.VBlankOncePerFrame := by
  intro s t d h on ht frames start crossings
  rw [ppuAdvance_of_on on] at ht
  obtain ⟨inv, on', position, sent, request⟩ := ppuDots_advance h on ht
  have sent' : frames t = frames s + crossings := sent
  refine ⟨sent', fun some => request.2 (.inr some), fun none => ?_, fun origin whole => ?_⟩
  · have keeps : t.irq.ifByte.getLsbD 0 = true ↔ s.irq.ifByte.getLsbD 0 = true :=
      request.trans (or_iff_left fun pos => absurd none (Nat.ne_of_gt pos))
    exact Bool.eq_iff_iff.2 keeps
  · have one : crossings = 1 := by simp only [crossings, origin, whole]
    have line := inv.line
    have dot := inv.dot
    have place : t.ppu.ly * 456 + t.ppu.lineDot = (start + d) % 70224 := position
    have ly : t.ppu.ly = 0 := by omega
    have lineDot : t.ppu.lineDot = 0 := by omega
    refine ⟨by rw [sent', one], ly, lineDot, ?_⟩
    rw [inv.modeOn on', ly, lineDot]
    rfl

/-! ### STAT, LY and LYC -/

/-- Whether the line that begins next requests interrupt 1 (R603, R607): by its entry to mode 1 or 2, or by a match with
LYC that is new. -/
def lineRequestsStat (s : State) : Bool :=
  let line := (s.ppu.ly + 1) % 154
  (decide (line = 144) && s.ppu.statEnable.getLsbD 1) || (decide (line < 144) && s.ppu.statEnable.getLsbD 2) ||
    (s.ppu.lcdOn && !s.ppu.lycEqual && decide (line = s.ppu.lyc.toNat) && s.ppu.statEnable.getLsbD 3)

/-- Whether the next dot requests interrupt 1: by its entry to mode 0, or by the line that it begins. -/
def dotRequestsStat (s : State) : Bool :=
  (decide (s.ppu.ly < 144 ∧ s.ppu.lineDot = 251) && s.ppu.statEnable.getLsbD 0) ||
    (decide (s.ppu.lineDot = 455) && lineRequestsStat s)

/-- A drain leaves every bit of IF but bit 4. -/
theorem drainEvents_bits (s : State) {n : Nat} (h4 : n ≠ 4) :
    (drainEvents s).irq.ifByte.getLsbD n = s.irq.ifByte.getLsbD n := by
  obtain ⟨k, q, d, e, same | set⟩ := drainEvents_eq s <;> rw [e]
  · exact congrArg (·.getLsbD n) same
  · show q.getLsbD n = _
    rw [set, getLsbD_setBitOf _ (by decide), decide_eq_false h4, Bool.or_false]

theorem statRequest_exact (n : Nat) (s : State) : statRequest n s = { s with irq := { s.irq with
    ifByte := if s.ppu.statEnable.getLsbD n then setBitOf s.irq.ifByte 1 else s.irq.ifByte } } := by
  unfold statRequest
  split <;> rfl

theorem statRequest_ppu (n : Nat) (s : State) : (statRequest n s).ppu = s.ppu := by
  unfold statRequest
  split <;> rfl

/-- The bits of IF after a STAT request. -/
theorem statRequest_ifByte (n : Nat) (s : State) (k : Nat) : (statRequest n s).irq.ifByte.getLsbD k =
    (s.irq.ifByte.getLsbD k || (decide (k = 1) && s.ppu.statEnable.getLsbD n)) := by
  obtain ⟨q, e, bits⟩ := statRequest_bits n s
  rw [e]
  exact bits k

/-- The bits of IF after the entry to mode 1, apart from VBlank and the keypad. -/
theorem enterVblank_bits (s : State) {n : Nat} (h0 : n ≠ 0) (h4 : n ≠ 4) : (enterVblank s).irq.ifByte.getLsbD n =
    (s.irq.ifByte.getLsbD n || (decide (n = 1) && s.ppu.statEnable.getLsbD 1)) := by
  have request : ((s.setMode .vblank).request 0).irq.ifByte.getLsbD n = s.irq.ifByte.getLsbD n := by
    rw [ifByte_request, getLsbD_setBitOf _ (by decide), decide_eq_false h0, Bool.or_false, irq_setMode]
  rw [enterVblank, drainEvents_bits _ h4]
  exact (statRequest_ifByte 1 _ n).trans (congrArg (· || _) request)

/-- The bits of IF that the end of a line sets, apart from VBlank and the keypad. -/
theorem nextLine_bits (s : State) {n : Nat} (h0 : n ≠ 0) (h4 : n ≠ 4) : (nextLine s).irq.ifByte.getLsbD n =
    (s.irq.ifByte.getLsbD n || (decide (n = 1) && lineRequestsStat s)) := by
  obtain ⟨q, e, bits⟩ := checkLyc_bits { s with ppu := { s.ppu with lineDot := 0, ly := (s.ppu.ly + 1) % 154 } }
  unfold nextLine
  generalize checkLyc _ = s1 at e ⊢
  have ly : s1.ppu.ly = (s.ppu.ly + 1) % 154 := by rw [e]
  have enable : s1.ppu.statEnable = s.ppu.statEnable := by rw [e]
  have compared : s1.irq.ifByte.getLsbD n = (s.irq.ifByte.getLsbD n || (decide (n = 1) && (s.ppu.lcdOn &&
      !s.ppu.lycEqual && decide ((s.ppu.ly + 1) % 154 = s.ppu.lyc.toNat) && s.ppu.statEnable.getLsbD 3))) := by
    rw [e]
    exact bits n
  unfold lineRequestsStat
  dsimp only
  rw [ly]
  split <;> rename_i visible
  · rw [enterOamScan, statRequest_ifByte]
    show (s1.irq.ifByte.getLsbD n || (decide (n = 1) && s1.ppu.statEnable.getLsbD 2)) = _
    rw [compared, enable, decide_eq_false (show ¬ (s.ppu.ly + 1) % 154 = 144 by omega), decide_eq_true visible]
    simp only [Bool.false_and, Bool.true_and, Bool.false_or, Bool.or_assoc, Bool.and_or_distrib_left]
    rw [Bool.or_comm (_ && _)]
  · split <;> rename_i first
    · rw [enterVblank_bits _ h0 h4, compared, enable, decide_eq_true first, decide_eq_false visible]
      simp only [Bool.false_and, Bool.true_and, Bool.or_false, Bool.or_assoc, Bool.and_or_distrib_left]
      rw [Bool.or_comm (_ && _)]
    · rw [compared, decide_eq_false visible, decide_eq_false first]
      rfl

/-- What a dot does to LCDC, the coincidence flag and IF, apart from VBlank and the keypad. -/
theorem ppuDot_status {s t : State} (hs : ppuDot s = .next t) :
    t.ppu.lcdc = s.ppu.lcdc ∧
    t.ppu.lycEqual = (if s.ppu.lineDot = 455 then decide ((s.ppu.ly + 1) % 154 = s.ppu.lyc.toNat)
      else s.ppu.lycEqual) ∧
    ∀ n, n ≠ 0 → n ≠ 4 → t.irq.ifByte.getLsbD n =
      (s.irq.ifByte.getLsbD n || (decide (n = 1) && dotRequestsStat s)) := by
  unfold ppuDot at hs
  dsimp only at hs
  split_ifs at hs with transfer hblank last
  · cases hs
    have dot : s.ppu.lineDot = 79 := by omega
    refine ⟨rfl, (if_neg (by omega)).symm, fun n _ _ => ?_⟩
    have quiet : dotRequestsStat s = false := by simp [dotRequestsStat, dot]
    rw [quiet, Bool.and_false, Bool.or_false]
    rfl
  · obtain ⟨dot, line⟩ : s.ppu.lineDot = 251 ∧ s.ppu.ly < 144 := by omega
    have requests : dotRequestsStat s = s.ppu.statEnable.getLsbD 0 := by simp [dotRequestsStat, dot, line]
    obtain ⟨m, d, rfl⟩ := hblankBlock_eq hs
    refine ⟨?_, ?_, fun n _ _ => ?_⟩
    · rw [statRequest_ppu]
      rfl
    · rw [statRequest_ppu, if_neg (by omega)]
      rfl
    · rw [requests]
      exact statRequest_ifByte 0 _ n
  · cases hs
    have dot : s.ppu.lineDot = 455 := by omega
    obtain ⟨q, k, o, e, -⟩ := nextLine_eq { s with ppu := { s.ppu with lineDot := s.ppu.lineDot + 1 } }
    refine ⟨by rw [e], ?_, fun n h0 h4 => ?_⟩
    · rw [if_pos dot, e]
    · have requests : dotRequestsStat s = lineRequestsStat s := by simp [dotRequestsStat, dot]
      rw [requests]
      exact nextLine_bits _ h0 h4
  · cases hs
    refine ⟨rfl, (if_neg (by omega)).symm, fun n _ _ => ?_⟩
    have quiet : dotRequestsStat s = false := by
      have line : ¬ (s.ppu.ly < 144 ∧ s.ppu.lineDot = 251) := by omega
      have dot : s.ppu.lineDot ≠ 455 := by omega
      simp [dotRequestsStat, line, dot]
    rw [quiet, Bool.and_false, Bool.or_false]

/-- STAT reads its enables in bits 6..3, the coincidence flag in bit 2 and a mode in bits 1..0 (R605). -/
theorem toNat_statByte : ∀ (enable : BitVec 4) (equal : Bool) (mode : BitVec 2),
    ((0x80 : Byte) ||| (enable.zeroExtend 8 <<< 3) ||| bitAt equal 2 ||| mode.zeroExtend 8).toNat =
      0x80 + 8 * enable.toNat + 4 * equal.toNat + mode.toNat := by decide +kernel

theorem toNat_statRead (p : Ppu) : (statRead p).toNat = 0x80 + 8 * p.statEnable.toNat + 4 * p.lycEqual.toNat +
    (if p.lcdOn then (match p.mode with
      | .hblank => 0
      | .vblank => 1
      | .oamScan => 2
      | .transfer => 3) else 0) := by
  unfold statRead
  cases p.lcdOn
  · exact toNat_statByte _ _ 0
  · cases p.mode
    · exact toNat_statByte _ _ 0
    · exact toNat_statByte _ _ 1
    · exact toNat_statByte _ _ 2
    · exact toNat_statByte _ _ 3

/-- The comparison with LYC (R607): the flag, and interrupt 1 at the leading edge of an enabled match with the LCD
on. -/
theorem checkLyc_exact (s : State) : checkLyc s = { s with
    ppu := { s.ppu with lycEqual := decide (s.ppu.ly = s.ppu.lyc.toNat) }
    irq := { s.irq with ifByte :=
      (if s.ppu.lcdOn = true ∧ s.ppu.lycEqual = false ∧ s.ppu.ly = s.ppu.lyc.toNat ∧ s.ppu.statEnable.getLsbD 3 = true
        then setBitOf s.irq.ifByte 1 else s.irq.ifByte) } } := by
  have edge : (s.ppu.lcdOn && !s.ppu.lycEqual && decide (s.ppu.ly = s.ppu.lyc.toNat) && s.ppu.statEnable.getLsbD 3) =
      true ↔ s.ppu.lcdOn = true ∧ s.ppu.lycEqual = false ∧ s.ppu.ly = s.ppu.lyc.toNat ∧
        s.ppu.statEnable.getLsbD 3 = true := by
    simp only [Bool.and_eq_true, Bool.not_eq_true', decide_eq_true_eq, and_assoc]
  unfold checkLyc
  dsimp only
  split <;> rename_i h
  · rw [if_pos (edge.1 h)]
    rfl
  · rw [if_neg (mt edge.2 h)]

theorem dotRequestsStat_iff {s : State} (on : s.ppu.lcdOn = true) : dotRequestsStat s = true ↔
    let line := (s.ppu.ly + 1) % 154
    (s.ppu.ly < 144 ∧ s.ppu.lineDot = 251 ∧ s.ppu.statEnable.getLsbD 0 = true) ∨
    (s.ppu.lineDot = 455 ∧ line = 144 ∧ s.ppu.statEnable.getLsbD 1 = true) ∨
    (s.ppu.lineDot = 455 ∧ line < 144 ∧ s.ppu.statEnable.getLsbD 2 = true) ∨
    (s.ppu.lineDot = 455 ∧ line = s.ppu.lyc.toNat ∧ s.ppu.lycEqual = false ∧ s.ppu.statEnable.getLsbD 3 = true) := by
  simp only [dotRequestsStat, lineRequestsStat, on, Bool.or_eq_true, Bool.and_eq_true, Bool.not_eq_true',
    decide_eq_true_eq]
  tauto

/-- Settles O50: the registers are those at their addresses; `ppuDot_status` is what a dot does to the flag and to IF,
and keeps the LCD on for the next. -/
theorem lineCompareAndStatus : Obligations.LineCompareAndStatus := by
  refine ⟨fun s v line => ?_, fun s mapped on _ _ => ?_, fun s d on => ?_⟩
  · have write {a : Word} {r : IoReg} (ha : HoldsReg a r) (hr : r.storedOnDmg = none) :
        memWrite s a v = ioRegWrite r v s := memWrite_register v ha (.inr hr)
    have read {a : Word} {r : IoReg} (ha : HoldsReg a r) (hr : r.storedOnDmg = none) :
        readByte s a = ioRegRead s r := readByte_register ha (.inr hr)
    refine ⟨write (r := .ly) (by decide) rfl, ?_, write (r := .stat) (by decide) rfl, ?_,
      read (r := .lyc) (by decide) rfl, _, (write (r := .lyc) (by decide) rfl).trans ?_, rfl⟩
    · rw [read (r := .ly) (by decide) rfl]
      exact Nat.mod_eq_of_lt (by omega)
    · rw [read (r := .stat) (by decide) rfl]
      exact toNat_statRead s.ppu
    · rw [ioRegWrite, checkLyc_exact]
      rfl
  · obtain ⟨t, ht⟩ := ppuDot_completes mapped
    obtain ⟨-, flag, bits⟩ := ppuDot_status ht
    refine ⟨t, ht, ?_, fun n h0 h1 h4 => ?_, flag⟩
    · rw [bits 1 (by decide) (by decide), decide_eq_true rfl, Bool.true_and, Bool.or_eq_true, dotRequestsStat_iff on]
    · rw [bits n h0 h4, decide_eq_false h1, Bool.false_and, Bool.or_false]
  · refine ⟨if_pos on, ?_⟩
    rw [ppuAdvance_of_on on, ppuDots]
    cases hu : ppuDot s
    case next u =>
      have on' : u.ppu.lcdOn = true := by
        obtain ⟨lcdc, -, -⟩ := ppuDot_status hu
        rw [Ppu.lcdOn, lcdc]
        exact on
      exact (ppuAdvance_of_on on' d).symm
    all_goals rfl

/-! ### Switching the LCD -/

theorem checkLyc_of_off {s : State} (off : s.ppu.lcdOn = false) : checkLyc s =
    { s with ppu := { s.ppu with lycEqual := decide (s.ppu.ly = s.ppu.lyc.toNat) } } := by
  rw [checkLyc_exact, off, if_neg (by simp)]

theorem zero_eq_toNat_iff (v : Byte) : 0 = v.toNat ↔ v = 0 := by
  rw [eq_comm, ← BitVec.toNat_inj]
  rfl

theorem brightFrame_eq (m : Model) : brightFrame m = List.replicate 144 (List.replicate 160
    (if m = .cgb then Pixel.colour 0xFFFFFFFF else Pixel.shade 0)) := by
  cases m <;> rfl

/-- A write to LCDC that switches the LCD off (R608). -/
theorem lcdcWrite_off {s : State} {v : Byte} (on : s.ppu.lcdOn = true) (h : v.getLsbD 7 = false) : lcdcWrite v s =
    { s with ppu := { s.ppu with
      lcdc := v, ly := 0, lineDot := 0, mode := .hblank, lycEqual := decide (0 = s.ppu.lyc.toNat)
      frame := brightFrame s.model } } := by
  have off := checkLyc_of_off (s := (restartPpu { s with ppu := { s.ppu with lcdc := v } }).setMode .hblank) h
  unfold lcdcWrite
  dsimp only
  rw [on, h, off]
  rfl

/-- Two requests for one interrupt are one. -/
theorem setBitOf_of_either (b : Bool) (c : Prop) [Decidable c] (q : Byte) (n : Nat) :
    (if b then setBitOf (if c then setBitOf q n else q) n else if c then setBitOf q n else q) =
      if b = true ∨ c then setBitOf q n else q := by
  by_cases hb : b = true <;> by_cases hc : c <;> simp [hb, hc, setBitOf_setBitOf]

/-- A write to LCDC that switches the LCD on (R608): both the comparison with LYC and the entry to mode 2 may request
interrupt 1. -/
theorem lcdcWrite_on {s : State} {v : Byte} (off : s.ppu.lcdOn = false) (h : v.getLsbD 7 = true) : lcdcWrite v s =
    { s with
      ppu := { s.ppu with
        lcdc := v, ly := 0, lineDot := 0, mode := .oamScan, lycEqual := decide (0 = s.ppu.lyc.toNat) }
      irq := { s.irq with ifByte :=
        (if s.ppu.statEnable.getLsbD 2 = true ∨
            (s.ppu.lycEqual = false ∧ 0 = s.ppu.lyc.toNat ∧ s.ppu.statEnable.getLsbD 3 = true)
          then setBitOf s.irq.ifByte 1 else s.irq.ifByte) } } := by
  have compared := checkLyc_exact (restartPpu { s with ppu := { s.ppu with lcdc := v } })
  have on : (restartPpu { s with ppu := { s.ppu with lcdc := v } }).ppu.lcdOn = true := h
  simp only [on, true_and] at compared
  have switched : lcdcWrite v s = enterOamScan (checkLyc (restartPpu { s with ppu := { s.ppu with lcdc := v } })) := by
    unfold lcdcWrite
    dsimp only
    rw [off, h]
    rfl
  rw [switched, compared, enterOamScan, statRequest_exact]
  simp only [← setBitOf_of_either]
  rfl

/-- Settles O51: the three outcomes of the write, and the law of `dmgShades`. -/
theorem lcdOffAndOn : Obligations.LcdOffAndOn := by
  intro s v
  have write : memWrite s 0xFF40 v = .next (lcdcWrite v s) := memWrite_register (r := .lcdc) v (by decide) (.inr rfl)
  refine ⟨fun on h => ?_, fun off h => ⟨_, ?_, rfl⟩, fun same => ?_, fun d off => ppuAdvance_of_off off d, fun n => ?_⟩
  · rw [write, lcdcWrite_off on h, brightFrame_eq]
    simp only [zero_eq_toNat_iff]
  · rw [write, lcdcWrite_on off h]
    simp only [zero_eq_toNat_iff]
  · rw [write, lcdcWrite, same]
    cases v.getLsbD 7 <;> rfl
  · exact ⟨brightness_dmgShades_le n, colourChannel_eq_of_brightness_le (brightness_dmgShades_le n)⟩

end Sys2Proof.Machine

/-! PROOFS of the statements about the sound unit (spec/63_sound.md). -/

namespace Sys2Proof.Machine

/-! ### The registers NR10 to NR51 -/

/-- The registers that the power switch gates (R705). -/
def IoReg.isSound : IoReg → Bool
  | .nr10 | .nr11 | .nr12 | .nr13 | .nr14 | .nr21 | .nr22 | .nr23 | .nr24 => true
  | .nr30 | .nr31 | .nr32 | .nr33 | .nr34 | .nr41 | .nr42 | .nr43 | .nr44 | .nr50 | .nr51 => true
  | _ => false

/-- Whether a slot is one of those registers or holds none. -/
def IoSlot.isSoundOrNone : IoSlot → Bool
  | .reg r => r.isSound
  | .unimplemented => true
  | .wave _ => false

theorem ioSlot_soundPage : ∀ a : Byte, 0x10 ≤ a.toNat → a.toNat ≤ 0x25 → (ioSlot a).isSoundOrNone = true := by
  decide +kernel

/-- Every implemented address of 0xFF10..0xFF25 holds one of them. -/
theorem holdsReg_sound {a : Word} (h1 : 0xFF10 ≤ a.toNat) (h2 : a.toNat ≤ 0xFF25) (hu : ¬ Unimplemented a) :
    ∃ r : IoReg, r.isSound = true ∧ HoldsReg a r := by
  have low : (loByte a).toNat = a.toNat - 0xFF00 := loByte_toNat_ioPage (by omega)
  have slot := ioSlot_soundPage (loByte a) (by omega) (by omega)
  cases hs : ioSlot (loByte a) <;> rw [hs] at slot
  case reg r => exact ⟨r, slot, by omega, by omega, hs⟩
  case wave i => cases slot
  case unimplemented => exact absurd ⟨by omega, by omega, hs⟩ hu

theorem storedOnDmg_of_isSound {r : IoReg} (h : r.isSound = true) : r.storedOnDmg = none := by
  cases r <;> first | rfl | cases h

theorem soundByte_of_off {u : Sound} (off : u.power = false) (v : Byte) : soundByte u v = 0 :=
  if_neg (Bool.eq_false_iff.1 off)

theorem soundByte_of_on {u : Sound} (on : u.power = true) (v : Byte) : soundByte u v = v := if_pos on

theorem soundWrite_of_off {s : State} (off : s.sound.power = false) (f : Sound → Sound) : soundWrite f s = s :=
  if_neg (Bool.eq_false_iff.1 off)

theorem soundWrite_of_on {s : State} (on : s.sound.power = true) (f : Sound → Sound) :
    soundWrite f s = { s with sound := f s.sound } := if_pos on

/-- The byte a sound register stores. -/
def IoReg.storedByte (r : IoReg) (u : Sound) : Byte :=
  match r with
  | .nr10 => u.nr10
  | .nr11 => u.ch1.nrx1
  | .nr12 => u.ch1.nrx2
  | .nr13 => u.ch1.nrx3
  | .nr14 => u.ch1.nrx4
  | .nr21 => u.ch2.nrx1
  | .nr22 => u.ch2.nrx2
  | .nr23 => u.ch2.nrx3
  | .nr24 => u.ch2.nrx4
  | .nr30 => u.ch3.nr30
  | .nr31 => u.ch3.nr31
  | .nr32 => u.ch3.nr32
  | .nr33 => u.ch3.nr33
  | .nr34 => u.ch3.nr34
  | .nr41 => u.ch4.nr41
  | .nr42 => u.ch4.nr42
  | .nr43 => u.ch4.nr43
  | .nr44 => u.ch4.nr44
  | .nr50 => u.nr50
  | .nr51 => u.nr51
  | _ => 0

theorem ioRegRead_sound {r : IoReg} (h : r.isSound = true) (s : State) :
    ioRegRead s r = soundByte s.sound (r.storedByte s.sound) := by
  cases r <;> first | rfl | cases h

theorem toneWrite4_nrx4 (v : Byte) (c : Tone) : (toneWrite4 v c).nrx4 = v := by
  unfold toneWrite4
  dsimp only
  split <;> rfl

theorem nr14Write_eq (v : Byte) (u : Sound) :
    ∃ t, nr14Write v u = { u with ch1 := toneWrite4 v u.ch1, sweepT := t } := by
  unfold nr14Write
  dsimp only
  split <;> exact ⟨_, rfl⟩

theorem waveWrite4_nr34 (ram : Memory) (v : Byte) (c : Wave) : (waveWrite4 ram v c).nr34 = v := by
  unfold waveWrite4
  dsimp only
  split <;> rfl

theorem noiseWrite4_nr44 (v : Byte) (c : Noise) : (noiseWrite4 v c).nr44 = v := by
  unfold noiseWrite4
  dsimp only
  split <;> rfl

/-- A write to a sound register updates the unit while it is on: the register holds the byte, and the power stays. -/
theorem ioRegWrite_sound {r : IoReg} (h : r.isSound = true) (v : Byte) (s : State) :
    ∃ f : Sound → Sound, ioRegWrite r v s = .next (soundWrite f s) ∧ r.storedByte (f s.sound) = v ∧
      (f s.sound).power = s.sound.power := by
  cases r
  case nr14 =>
    obtain ⟨t, e⟩ := nr14Write_eq v s.sound
    exact ⟨_, rfl, by rw [e]; exact toneWrite4_nrx4 v _, by rw [e]⟩
  case nr24 => exact ⟨_, rfl, toneWrite4_nrx4 v _, rfl⟩
  case nr34 => exact ⟨_, rfl, waveWrite4_nr34 _ v _, rfl⟩
  case nr44 => exact ⟨_, rfl, noiseWrite4_nr44 v _, rfl⟩
  all_goals first | exact ⟨_, rfl, rfl, rfl⟩ | cases h

/-! ### NR52 -/

theorem nr52Read_eq (u : Sound) : nr52Read u = BitVec.ofNat 8 (128 * u.power.toNat + 0x70 + 8 * u.ch4.on.toNat +
    4 * u.ch3.on.toNat + 2 * u.ch2.on.toNat + u.ch1.on.toNat) := by
  have all : ∀ p a b c d : Bool, bitAt p 7 ||| 0x70 ||| bitAt a 3 ||| bitAt b 2 ||| bitAt c 1 ||| bitAt d 0 =
      BitVec.ofNat 8 (128 * p.toNat + 0x70 + 8 * a.toNat + 4 * b.toNat + 2 * c.toNat + d.toNat) := by decide
  exact all _ _ _ _ _

/-- Settles O52: each address of the range holds a sound register, whose reads and writes the power gates; NR52 off
switches the four channels off. -/
theorem soundPowerOff : Obligations.SoundPowerOff := by
  have write (s : State) (v : Byte) : memWrite s 0xFF26 v = .next { s with sound := nr52Write v s.sound } :=
    memWrite_register (r := .nr52) v (by decide) (.inr rfl)
  have read (s : State) : readByte s 0xFF26 = nr52Read s.sound := readByte_register (r := .nr52) (by decide) (.inr rfl)
  refine ⟨fun s v h => ⟨_, write s v, ?_, ?_, ?_⟩, fun s a off h1 h2 hu => ?_, fun s => (read s).trans (nr52Read_eq _),
    fun s v h => ?_, fun s a w on h1 h2 hu => ?_⟩
  · rw [read, nr52Read_eq, nr52Write, if_neg (Bool.eq_false_iff.1 h)]
    rfl
  · rw [nr52Write, if_neg (Bool.eq_false_iff.1 h)]
  · rw [nr52Write, if_neg (Bool.eq_false_iff.1 h)]
  · obtain ⟨r, sound, holds⟩ := holdsReg_sound h1 h2 hu
    have unmarked := storedOnDmg_of_isSound sound
    refine ⟨?_, fun w => ?_⟩
    · rw [readByte_register holds (.inr unmarked), ioRegRead_sound sound, soundByte_of_off off]
    · obtain ⟨f, e, -, -⟩ := ioRegWrite_sound sound w s
      rw [memWrite_register w holds (.inr unmarked), e, soundWrite_of_off off]
  · rw [write, nr52Write, if_pos h]
  · obtain ⟨r, sound, holds⟩ := holdsReg_sound h1 h2 hu
    have unmarked := storedOnDmg_of_isSound sound
    obtain ⟨f, e, stored, power⟩ := ioRegWrite_sound sound w s
    refine ⟨_, by rw [memWrite_register w holds (.inr unmarked), e, soundWrite_of_on on], ?_⟩
    rw [readByte_register holds (.inr unmarked), ioRegRead_sound sound, soundByte_of_on (power.trans on)]
    exact stored

/-! ### Samples -/

/-- What `n` samples do: `n` inputs of the output filters, newest first, a frame of the inputs so far for each, and the
accumulator a sample lower each time. -/
def Sampled (p n : Nat) (s t : State) : Prop :=
  ∃ inputs : List SoundInput, inputs.length = n ∧ t.sound.filter = inputs ++ s.sound.filter ∧
    t.host.sent = (inputs.tails.dropLast.map fun x => HostMessage.audio (x ++ s.sound.filter)) ++ s.host.sent ∧
    t.sound.sampleAcc = s.sound.sampleAcc - n * p

/-- One turn of R701's loop: a sample less in the accumulator, then the sample. -/
def sampleTurn (p : Nat) (s : State) : State :=
  sampleTick { s with sound := { s.sound with sampleAcc := s.sound.sampleAcc - p } }

/-- A turn takes one input, hands over its frame, and takes a sample from the accumulator. -/
theorem sampleTurn_spec (p : Nat) (s : State) : ∃ i : SoundInput,
    (sampleTurn p s).sound.filter = i :: s.sound.filter ∧
    (sampleTurn p s).host.sent = .audio (i :: s.sound.filter) :: s.host.sent ∧
    (sampleTurn p s).sound.sampleAcc = s.sound.sampleAcc - p := by
  obtain ⟨u, i, e, filter, acc, -⟩ := sampleTick_eq { s with
    sound := { s.sound with sampleAcc := s.sound.sampleAcc - p } }
  rw [sampleTurn, e]
  exact ⟨i, filter, rfl, acc⟩

theorem sampleTurn_sampleAcc (p : Nat) (s : State) : (sampleTurn p s).sound.sampleAcc = s.sound.sampleAcc - p := by
  obtain ⟨i, -, -, acc⟩ := sampleTurn_spec p s
  exact acc

theorem tails_cons_dropLast {α : Type} (x : α) (xs : List α) :
    (x :: xs).tails.dropLast = (x :: xs) :: xs.tails.dropLast := by
  rw [List.tails_cons, List.dropLast_cons_of_ne_nil (by cases xs <;> simp)]

theorem iterate_sampleTurn (p n : Nat) (s : State) : Sampled p n s ((sampleTurn p)^[n] s) := by
  induction n with
  | zero => exact ⟨[], rfl, rfl, rfl, by simp⟩
  | succ n ih =>
    rw [Function.iterate_succ_apply']
    generalize (sampleTurn p)^[n] s = t at ih ⊢
    obtain ⟨inputs, length, filter, sent, acc⟩ := ih
    obtain ⟨i, filter', sent', acc'⟩ := sampleTurn_spec p t
    rw [filter] at filter' sent'
    refine ⟨i :: inputs, by rw [List.length_cons, length], filter', ?_, ?_⟩
    · rw [sent', sent, tails_cons_dropLast]
      rfl
    · rw [acc', acc, Nat.sub_sub, Nat.add_mul, Nat.one_mul]

theorem soundAdvance_sampled (d : Nat) (s : State) :
    Sampled cpuClockHz ((s.sound.sampleAcc + sampleHz * d) / cpuClockHz)
      { s with sound := { s.sound with sampleAcc := s.sound.sampleAcc + sampleHz * d } } (soundAdvance d s) := by
  have turns := loopWhile_eq_iterate (m := fun t : State => t.sound.sampleAcc) (body := sampleTurn cpuClockHz)
    (Nat.zero_lt_succ _) (sampleTurn_sampleAcc cpuClockHz) _
    { s with sound := { s.sound with sampleAcc := s.sound.sampleAcc + sampleHz * d } } rfl
  have advance : soundAdvance d s = _ := turns
  rw [advance]
  exact iterate_sampleTurn _ _ _

/-- A value that is only kept where the condition holds. -/
theorem keepIf_congr {α : Type} {c : Bool} {x y : α} (h : c = true → x = y) : keepIf c x = keepIf c y := by
  cases c
  · rfl
  · rw [h rfl]

/-- Only what is routed to a side goes into its pre-filter sum (R745, law 2). -/
theorem sideSum_congr {side : Side} {i j : SoundInput} (past : FilterState) (routing : j.routing = i.routing)
    (volume : masterVolume j side = masterVolume i side)
    (h1 : routesTo i side 1 = true → j.level1 = i.level1) (h2 : routesTo i side 2 = true → j.level2 = i.level2)
    (h3 : routesTo i side 3 = true → j.level3 = i.level3) (h4 : routesTo i side 4 = true → j.level4 = i.level4) :
    sideSum side j past = sideSum side i past := by
  have routes (k : Nat) : routesTo j side k = routesTo i side k := by cases side <;> simp only [routesTo, routing]
  have noise : keepIf (routesTo i side 4)
        (Config.noiseHighPass side ((j :: past).map fun x => (x.level4, routesTo x side 4))) =
      keepIf (routesTo i side 4)
        (Config.noiseHighPass side ((i :: past).map fun x => (x.level4, routesTo x side 4))) := by
    refine keepIf_congr fun routed => ?_
    rw [List.map_cons, List.map_cons, routes, h4 routed]
  unfold sideSum
  rw [routes 1, routes 2, routes 3, routes 4, volume, keepIf_congr h1, keepIf_congr h2, keepIf_congr h3, noise]

/-- The two master volumes of NR50 do not look at its bits 7 and 3 (R740). -/
theorem extract_of_and_eq {v w : Byte} (h : v &&& 0x77 = w &&& 0x77) :
    v.extractLsb' 4 3 = w.extractLsb' 4 3 ∧ v.extractLsb' 0 3 = w.extractLsb' 0 3 := by
  have masked : ∀ x : Byte, x.extractLsb' 4 3 = (x &&& 0x77).extractLsb' 4 3 ∧
      x.extractLsb' 0 3 = (x &&& 0x77).extractLsb' 0 3 := by decide +kernel
  rw [(masked v).1, (masked v).2, (masked w).1, (masked w).2, h]
  exact ⟨rfl, rfl⟩

/-- Settles O53: the loop takes as many samples as fit; each side's output is clamped; the sum of a side takes what is
routed to it, and a sample the volumes only of NR50. -/
theorem sampleCount : Obligations.SampleCount := by
  refine ⟨fun s d => ?_, fun samples => ?_, fun side i j past => sideSum_congr past, fun u v h => ?_⟩
  · obtain ⟨inputs, length, filter, sent, acc⟩ := soundAdvance_sampled d s
    exact ⟨inputs, length, filter, sent, acc.trans Nat.mod_eq_sub_div_mul.symm⟩
  · obtain ⟨lowLeft, highLeft⟩ := sideOutput_bounds .left samples
    obtain ⟨lowRight, highRight⟩ := sideOutput_bounds .right samples
    exact ⟨lowLeft, highLeft, lowRight, highRight⟩
  · obtain ⟨left, right⟩ := extract_of_and_eq h
    simp only [soundInput, left, right]

end Sys2Proof.Machine

/-! PROOFS of the statements about the invariant between steps and about the state after reset
(spec/70_reset_and_hazards.md). -/

namespace Sys2Proof.Machine

/-! ### The invariant within a step -/

/-- The part of the invariant that every phase of a step keeps. The deferred queue, HALT and the timer are apart: each
is put in order by one phase. -/
structure PhaseInv (s : State) : Prop where
  body : BodyInv s
  lowNibble : s.cpu.f &&& 0x0F = 0
  speedOnDmg : s.model = .dmg → s.cpu.doubleSpeed = false
  armedOnDmg : s.model = .dmg → s.cpu.key1Armed = false
  running : s.fault = none

theorem State.Inv.phase {s : State} (h : s.Inv) : PhaseInv s :=
  ⟨⟨h.mem, h.ppu, h.device⟩, h.cpu.lowNibble, h.cpu.speedOnDmg, h.cpu.armedOnDmg, h.running⟩

theorem PhaseInv.of_kept {s t : State} (h : PhaseInv s) (k : Kept s t) (body : BodyInv t) (fault : t.fault = s.fault) :
    PhaseInv t := by
  have dmg (hm : t.model = .dmg) : s.model = .dmg ∧ s.cgb = false := by
    rw [k.model] at hm
    exact ⟨hm, by simp [State.cgb, hm]⟩
  refine ⟨body, k.low h.lowNibble, fun hm => ?_, fun hm => ?_, fault.trans h.running⟩
  · obtain ⟨model, cgb⟩ := dmg hm
    exact (k.speed cgb).trans (h.speedOnDmg model)
  · obtain ⟨model, cgb⟩ := dmg hm
    exact (k.armed cgb).trans (h.armedOnDmg model)

/-- A change of nothing that the phases' invariant sees of the CPU. -/
theorem PhaseInv.of_body {s t : State} (h : PhaseInv s) (body : BodyInv t) (model : t.model = s.model)
    (f : t.cpu.f = s.cpu.f) (speed : t.cpu.doubleSpeed = s.cpu.doubleSpeed)
    (armed : t.cpu.key1Armed = s.cpu.key1Armed) (fault : t.fault = s.fault) : PhaseInv t := by
  refine ⟨body, ?_, ?_, ?_, fault.trans h.running⟩
  · rw [f]; exact h.lowNibble
  · rw [model, speed]; exact h.speedOnDmg
  · rw [model, armed]; exact h.armedOnDmg

/-! ### The instruction -/

theorem fault_stable (k : Option StopKind) : Stable fun s => s.fault = k :=
  ⟨fun _ _ _ h => h, fun _ _ _ _ h hw => (memWrite_frame hw).fault.trans h⟩

/-- The deferred queue between steps (R39, R511). -/
def QueueDue (q : List Deferred) : Prop := q.length ≤ 1 ∧ ∀ d ∈ q, d.remaining = 1

/-- An instruction keeps the queue or defers one effect; what is left of it after its step is due in the next. -/
theorem form_queueDue {f : Form} {s t : State} (h : QueueDue s.cpu.pending) (ht : formMeaning f s = .next t) :
    QueueDue (applyPending t).cpu.pending := by
  obtain ⟨short, due⟩ := h
  rcases form_kept ht with k | ⟨e, rfl⟩
  · have empty : (applyPending t).cpu.pending = [] := by
      rw [← countDown_short short due, ← k.pending]
      rfl
    rw [empty]
    exact ⟨Nat.zero_le 1, by simp⟩
  · rw [(applyPending_defer short due e).2]
    exact ⟨le_rfl, by simp⟩

theorem form_phase {f : Form} {s t : State} (h : PhaseInv s) (ht : formMeaning f s = .next t) : PhaseInv t := by
  have body : BodyInv t := bodyInv_stable.form h.body ht
  have fault : t.fault = s.fault := (fault_stable s.fault).form rfl ht
  rcases form_kept ht with k | ⟨e, rfl⟩
  · exact h.of_kept k body fault
  · exact h.of_body body rfl rfl rfl rfl rfl

/-- Phase a: one instruction, or the wait of a halted CPU. -/
theorem executePhase_keeps {s t : State} (h : PhaseInv s) (hq : QueueDue s.cpu.pending)
    (ht : executePhase s = .next t) : PhaseInv t ∧ QueueDue (applyPending t).cpu.pending := by
  unfold executePhase at ht
  dsimp only at ht
  split at ht
  · cases ht
    refine ⟨h.of_body (h.body.of_eq rfl rfl rfl rfl rfl rfl rfl rfl rfl) rfl rfl rfl rfl rfl, ?_⟩
    exact form_queueDue (f := .nop) (s := { s with extra := 0 }) hq rfl
  · obtain ⟨x, hx, hi⟩ := andThen_eq_next.1 ht
    obtain ⟨p, hp⟩ := fetchInstr_pc hx
    rw [hp, exec_eq_formMeaning] at hi
    have fetched : PhaseInv (State.setPc { s with extra := 0 } p) :=
      h.of_body (h.body.of_eq rfl rfl rfl rfl rfl rfl rfl rfl rfl) rfl rfl rfl rfl rfl
    exact ⟨form_phase fetched hi, form_queueDue (s := State.setPc { s with extra := 0 } p) hq hi⟩

/-! ### The device phases -/

theorem clearStall_keeps {s : State} (h : BodyInv s) : BodyInv (clearStall s) :=
  ⟨h.mem.of_eq rfl rfl rfl rfl rfl, h.ppu.of_eq rfl,
    { h.device with hdmaLeft := h.device.hdmaLeft, hdmaOnDmg := h.device.hdmaOnDmg }⟩

theorem PhaseInv.begun {s : State} (h : PhaseInv s) : PhaseInv (applyPending (clearStall s)) :=
  h.of_body ((clearStall_keeps h.body).of_eq rfl rfl rfl rfl rfl rfl rfl rfl rfl) rfl rfl rfl rfl rfl

theorem PhaseInv.advanced {fast : Bool} {c : Nat} {s t : State} (h : PhaseInv s) (ht : advance fast c s = .next t) :
    PhaseInv t := by
  obtain ⟨body, -, frame⟩ := advance_keeps h.body ht
  exact h.of_body body frame.model (by rw [frame.cpu]) (by rw [frame.cpu]) (by rw [frame.cpu]) frame.fault

theorem PhaseInv.serialTick {s : State} (h : PhaseInv s) : PhaseInv (serialTick s) := by
  have body := serialTick_keeps h.body
  obtain ⟨p, q, o, e, -⟩ := serialTick_eq s
  rw [e] at body ⊢
  exact h.of_body body rfl rfl rfl rfl rfl

/-- The halt exit clears `halted`, or leaves a state alone whose CPU, if halted, has nothing to wake for (R508). -/
theorem haltExit_cases (s : State) : haltExit s = s.setHalted false ∨
    (haltExit s = s ∧ (s.cpu.halted = true → s.cpu.ime = true ∧ s.requested = 0)) := by
  unfold haltExit
  split <;> rename_i h
  · exact .inl rfl
  · refine .inr ⟨rfl, fun halted => ?_⟩
    simpa [halted] using h

theorem PhaseInv.haltExit {s : State} (h : PhaseInv s) : PhaseInv (haltExit s) := by
  rcases haltExit_cases s with e | ⟨e, -⟩ <;> rw [e]
  · exact h.of_body (h.body.of_eq rfl rfl rfl rfl rfl rfl rfl rfl rfl) rfl rfl rfl rfl rfl
  · exact h

theorem haltExit_waits (s : State) :
    (haltExit s).cpu.halted = true → (haltExit s).cpu.ime = true ∧ (haltExit s).requested = 0 := by
  rcases haltExit_cases s with e | ⟨e, h⟩ <;> rw [e]
  · exact nofun
  · exact h

/-- Taking an interrupt: the request, IME, SP and PC change, and two bytes of the stack are written. -/
theorem takeInterrupt_keeps {n : Nat} {s t : State} (h : PhaseInv s) (ht : takeInterrupt n s = .next t) :
    PhaseInv t ∧ t.cpu.pending = s.cpu.pending ∧ t.cpu.halted = s.cpu.halted := by
  obtain ⟨u, hu, rfl⟩ := takeInterrupt_eq_next ht
  have begun : BodyInv { s.setIme false with irq := { s.irq with ifByte := clearBitOf s.irq.ifByte n } } :=
    h.body.of_eq rfl rfl rfl rfl rfl rfl rfl rfl rfl
  have pushed : BodyInv u := bodyInv_stable.push16 begun hu
  have kept := kept_push16 hu
  obtain ⟨-, -, -, frame⟩ := push16_eq_next hu
  refine ⟨h.of_kept ⟨kept.pending, kept.low, kept.model, kept.speed, kept.armed⟩
    (pushed.of_eq rfl rfl rfl rfl rfl rfl rfl rfl rfl) frame.fault, kept.pending, ?_⟩
  rw [State.setPc, frame.cpu]
  rfl

/-- The invariant from its parts. -/
theorem PhaseInv.inv {s : State} (h : PhaseInv s) (hq : QueueDue s.cpu.pending)
    (waits : s.cpu.halted = true → s.cpu.ime = true ∧ s.requested = 0) (timer : TimerInv s) : s.Inv :=
  ⟨⟨h.lowNibble, hq.1, hq.2, waits, h.speedOnDmg, h.armedOnDmg⟩, h.body.mem, h.body.ppu, h.body.device, timer,
    h.running⟩

/-- The interrupt check completes the invariant: it leaves the state alone, or it takes an interrupt of a CPU that is
not halted, and the advance that follows puts the timer in order. -/
theorem dispatch_inv {s t : State} (h : PhaseInv s) (hq : QueueDue s.cpu.pending)
    (waits : s.cpu.halted = true → s.cpu.ime = true ∧ s.requested = 0) (timer : TimerInv s)
    (ht : dispatch s = .next t) : t.Inv := by
  rcases dispatch_eq_next ht with ⟨rfl, -⟩ | ⟨-, requested, n, u, hu, ha⟩
  · exact h.inv hq waits timer
  · obtain ⟨taken, pending, halted⟩ := takeInterrupt_keeps h hu
    obtain ⟨-, timer', frame⟩ := advance_keeps taken.body ha
    refine (taken.advanced ha).inv (by rw [frame.cpu, pending]; exact hq) (fun asleep => ?_) timer'
    rw [frame.cpu, halted] at asleep
    exact absurd (waits asleep).2 requested

theorem devicePhases_inv {fast : Bool} {s t : State} (h : PhaseInv s) (hq : QueueDue (applyPending s).cpu.pending)
    (ht : devicePhases fast s = .next t) : t.Inv := by
  obtain ⟨u, hu, hd⟩ := andThen_eq_next.1 ht
  have begun := h.begun
  obtain ⟨-, timer, frame⟩ := advance_keeps begun.body hu
  obtain ⟨p, q, o, e, -⟩ := serialTick_eq u
  have timer' : TimerInv (serialTick u) := by rw [e]; exact timer
  have served : (serialTick u).cpu.pending = (applyPending s).cpu.pending := by
    rw [e]
    exact congrArg Cpu.pending frame.cpu
  have exits := (begun.advanced hu).serialTick.haltExit
  have queue : (haltExit (serialTick u)).cpu.pending = (applyPending s).cpu.pending := by
    rcases haltExit_cases (serialTick u) with e' | ⟨e', -⟩ <;> rw [e'] <;> exact served
  refine dispatch_inv exits (by rw [queue]; exact hq) (haltExit_waits _) ?_ hd
  rcases haltExit_cases (serialTick u) with e' | ⟨e', -⟩ <;> rw [e'] <;> exact timer'

/-- Settles O58: phase a keeps what every phase keeps and leaves the queue due; the device phases put HALT and the timer
in order. -/
theorem stepKeepsInvariant : Obligations.StepKeepsInvariant := by
  intro s t h hs
  simp only [step, machineStep] at hs
  split at hs
  · simp at hs
  · simp at hs
  · obtain ⟨u, hu, ht⟩ := andThen_eq_next.1 hs
    obtain ⟨phase, queue⟩ := executePhase_keeps h.phase ⟨h.cpu.pendingShort, h.cpu.pendingDue⟩ hu
    exact devicePhases_inv phase queue ht

/-! ### The state after reset -/

theorem Memory.sized_nil (n : Nat) : Memory.sized [] n := ⟨Memory.wf_nil, by simp⟩

theorem cpuInv_init {m : Model} (hm : m = .dmg ∨ m = .cgb) (cart : Cart) (rom ram cells : Memory) :
    CpuInv (State.init m cart rom ram cells) := by
  rcases hm with rfl | rfl
  · exact ⟨show (0xB0 : Byte) &&& 0x0F = 0 by decide, Nat.zero_le 1, nofun, nofun, fun _ => rfl, fun _ => rfl⟩
  · exact ⟨show (0x80 : Byte) &&& 0x0F = 0 by decide, Nat.zero_le 1, nofun, nofun, fun _ => rfl, fun _ => rfl⟩

theorem ioInit_sized (m : Model) : (ioInit m).sized 0x80 := by
  cases m <;> unfold Memory.sized <;> decide

theorem memInv_init (m : Model) {cart : Cart} {rom ram cells : Memory} (hrom : rom.wf)
    (hram : ram.sized (cart.ramBanks * 0x2000)) (hcells : cells.sized 512) :
    MemInv (State.init m cart rom ram cells) where
  rom := hrom
  vram := Memory.sized_nil _
  eram := hram
  mbc2ram := hcells
  wram := Memory.sized_nil _
  oam := Memory.sized_nil _
  hram := Memory.sized_nil _
  io := ioInit_sized m
  waveRam := Memory.sized_nil _
  bgPalette := Memory.sized_nil _
  objPalette := Memory.sized_nil _

theorem ppuInv_init (m : Model) (cart : Cart) (rom ram cells : Memory) :
    PpuInv (State.init m cart rom ram cells) where
  line := Nat.zero_lt_succ _
  dot := Nat.zero_lt_succ _
  modeOn _ := rfl
  modeOff off := absurd (show (0x91 : Byte).getLsbD 7 = false from off) (by decide)
  coincidence := rfl
  lines := brightFrame_lines m
  columns := brightFrame_columns m

theorem deviceInv_init (m : Model) (cart : Cart) (rom ram cells : Memory) :
    DeviceInv (State.init m cart rom ram cells) where
  wramBank := by show (1 : BitVec 3) ≠ 0; decide
  mbc1Low5 := by show (1 : BitVec 5) ≠ 0; decide
  hdmaLeft := Nat.zero_le _
  hdmaOnDmg _ := rfl
  serialBusy := show false = (0x7E : Byte).getLsbD 7 by decide
  waveTable := rfl
  sampleAcc := Nat.zero_lt_succ _

/-- The default `INIT` meets the invariant whatever its cartridge holds within its sizes (R800). -/
theorem inv_init {m : Model} (hm : m = .dmg ∨ m = .cgb) {cart : Cart} {rom ram cells : Memory} (hrom : rom.wf)
    (hram : ram.sized (cart.ramBanks * 0x2000)) (hcells : cells.sized 512) :
    (State.init m cart rom ram cells).Inv where
  cpu := cpuInv_init hm cart rom ram cells
  mem := memInv_init m hrom hram hcells
  ppu := ppuInv_init m cart rom ram cells
  device := deviceInv_init m cart rom ram cells
  timer on := absurd (show (0xF8 : Byte).getLsbD 2 = true from on) (by decide)
  running := rfl

/-- Settles O59: `State.reset` is the default `INIT` over empty memories. -/
theorem resetMeetsInvariant : Obligations.ResetMeetsInvariant :=
  ⟨inv_init (.inl rfl) Memory.wf_nil (Memory.sized_nil _) (Memory.sized_nil _),
    fun _ _ _ _ _ hm hrom hram hcells => inv_init hm hrom hram hcells⟩

/-- What the high page reads after reset does not depend on the cartridge. -/
theorem readByte_init_highPage (m : Model) (cart : Cart) (rom ram cells : Memory) {a : Word} (h : 0xFF00 ≤ a.toNat) :
    readByte (State.init m cart rom ram cells) a = readByte (State.init m Cart.plain [] [] []) a := by
  by_cases io : a.toNat ≤ 0xFF7F
  · rw [readByte_ioPage _ h io, readByte_ioPage _ h io]
    unfold ioRead
    cases ioSlot (loByte a)
    case reg r => cases r <;> rfl
    all_goals rfl
  · simp (disch := omega) only [readByte, locOf, if_neg]
    split <;> rfl

/-- A list of reads of the high page after reset, from that of the plain cartridge. -/
theorem reads_init {m : Model} {cart : Cart} {rom ram cells : Memory} {as : List Word} {vs : List Byte}
    (high : ∀ a ∈ as, 0xFF00 ≤ a.toNat) (h : as.map (readByte (State.init m Cart.plain [] [] [])) = vs) :
    as.map (readByte (State.init m cart rom ram cells)) = vs :=
  (List.map_congr_left fun a ha => readByte_init_highPage m cart rom ram cells (high a ha)).trans h

/-- Settles O60: the fields are those of the parts' own reset values, and the registers read as over the plain
cartridge, on each model apart. -/
theorem resetValues : Obligations.ResetValues := by
  refine ⟨rfl,
    fun cart rom e k => ⟨show pairOf 0x01 0xB0 = 0x01B0 by decide, show pairOf 0x00 0x13 = 0x0013 by decide,
      show pairOf 0x00 0xD8 = 0x00D8 by decide, show pairOf 0x01 0x4D = 0x014D by decide, rfl⟩,
    fun cart rom e k => ⟨show pairOf 0x11 0x80 = 0x1180 by decide, show pairOf 0x00 0x00 = 0x0000 by decide,
      show pairOf 0xFF 0x56 = 0xFF56 by decide, show pairOf 0x00 0x0D = 0x000D by decide, rfl⟩,
    fun m cart rom e k hm => ?_⟩
  rcases hm with rfl | rfl
  all_goals
    repeat refine ⟨rfl, ?_⟩
    refine ⟨decide_eq_false, decide_eq_true, ?_⟩
    repeat refine ⟨rfl, ?_⟩
    exact ⟨reads_init (by simp) (by decide +kernel), reads_init (by simp) (by decide +kernel),
      reads_init (by simp) (by decide +kernel), reads_init (by simp) (by decide +kernel)⟩

end Sys2Proof.Machine
